-- ==== Sys2Proof/Word.lean ====
section
/-! DEFINITION. The words XMTX works on (00_scope R13: all values are unsigned, bit 0 is the least significant). -/

namespace Sys2Proof

/-- One byte on a wire, in the image or on DIN (00_scope R13, 20_memory R59). -/
abbrev Byte := BitVec 8

/-- The 16-bit remainder of CRCU (10_state R26). -/
abbrev Remainder := BitVec 16

/-- The 4-bit state code ST[3:0] (30_encoding R71). -/
abbrev StCode := BitVec 4

/-- The 4-bit result code RES[3:0] (30_encoding R74). -/
abbrev ResCode := BitVec 4

/-- The 3-bit phase code RES_PHASE[2:0] (30_encoding R75, 90_conflicts C9). -/
abbrev PhaseCode := BitVec 3

end Sys2Proof
end

