-- ==== Sys2Proof/Config.lean ====
section
/-! DEFINITION. The open parameters of 00_scope R11. The spec fixes none of their values, so the model takes them as
arguments: they stand in `State.params`, every statement holds for each value of them, and at reset they are the opaque
constants below (log 1). -/

namespace Sys2Proof

/-- The open parameters a session runs under (00_scope R11, 10_state R39: fixed for the whole session, not registers). -/
structure Params where
  /-- `MENU_UPLOAD_BYTE`: the byte selecting 'upload' from the bootloader's menu (R11, D13). -/
  menuUploadByte : Byte
  /-- `IDLE_MAX`, at least 1: the most bytes one idle-read returns (R11, D11). -/
  idleMax : Nat
  /-- `MAX_IMAGE_LEN`, at least 1: the largest image length START accepts (R11, D4). -/
  maxImageLen : Nat
  deriving DecidableEq, Repr

/-- The two lower bounds R11 states: `IDLE_MAX` and `MAX_IMAGE_LEN` are naturals of at least 1. -/
abbrev Params.Legal (p : Params) : Prop := 1 ≤ p.idleMax ∧ 1 ≤ p.maxImageLen

/-- The upload menu byte of this machine. No value is known for it (91_not_in_source; "A model must not hard-code it"). -/
opaque Config.menuUploadByte : Byte

/-- `IDLE_MAX` less 1, so that `IDLE_MAX ≥ 1` holds whatever the value is (R11). -/
opaque Config.idleMaxLessOne : Nat

/-- `MAX_IMAGE_LEN` less 1, so that `MAX_IMAGE_LEN ≥ 1` holds whatever the value is (R11). -/
opaque Config.maxImageLenLessOne : Nat

/-- The parameters of the machine that `State.reset` describes: no value of them can be proved. -/
def Config.params : Params where
  menuUploadByte := Config.menuUploadByte
  idleMax := Config.idleMaxLessOne + 1
  maxImageLen := Config.maxImageLenLessOne + 1

end Sys2Proof
end

