-- ==== Sys2Proof/Machine/Codes.lean ====
section
/-! DEFINITION. The fixed parameters of 00_scope R10 and the codes of 30_encoding R71, R74 and R75. -/

namespace Sys2Proof.Machine

/-- `BLOCK_SIZE`: payload bytes in a block (R10). -/
def blockSize : Nat := 128
/-- `FRAME_LEN`: 3 header bytes, 128 data bytes, 2 CRC bytes (R10, R76). -/
def frameLen : Nat := 133
/-- `FILL`: the padding byte after the image end (R10). -/
def fillByte : Byte := 0xFF
/-- `SOH`: the first byte of a frame (R10). -/
def sohByte : Byte := 0x01
/-- `EOT`: the end-of-transmission byte (R10). -/
def eotByte : Byte := 0x04
/-- `ACK`: the positive acknowledgement byte (R10). -/
def ackByte : Byte := 0x06
/-- `GO`: ASCII 'C', receiver ready in CRC mode (R10). -/
def goByte : Byte := 0x43

/-! State codes (R71). -/
def stIdle : StCode := 0x0
def stReq : StCode := 0x1
def stGo : StCode := 0x2
def stHdrSoh : StCode := 0x3
def stHdrNum : StCode := 0x4
def stHdrCmp : StCode := 0x5
def stData : StCode := 0x6
def stCrcHi : StCode := 0x7
def stCrcLo : StCode := 0x8
def stAckWait : StCode := 0x9
def stProg : StCode := 0xA
def stEotTx : StCode := 0xB
def stEotWait : StCode := 0xC
def stDoneOk : StCode := 0xD
def stDoneErr : StCode := 0xE
def stReserved : StCode := 0xF

/-! Result codes (R74). -/
def resNone : ResCode := 0x0
def resBusy : ResCode := 0x1
def resSuccess : ResCode := 0x2
def resMenuSelectFailed : ResCode := 0x3
def resNoGoAhead : ResCode := 0x4
def resUnexpectedTransferType : ResCode := 0x5
def resBlockTransferFailed : ResCode := 0x6
def resTransferNotConfirmed : ResCode := 0x7
def resIoError : ResCode := 0x8

/-! Phase codes (R75). -/
def phNa : PhaseCode := 0
def phRequestTransfer : PhaseCode := 1
def phAwaitGoAhead : PhaseCode := 2
def phBlockLoop : PhaseCode := 3
def phEndOfTransmission : PhaseCode := 4

end Sys2Proof.Machine
end

