-- ==== Sys2Proof/Syntax.lean ====
section
/-! DEFINITION. One constructor of `Instr` for each row of spec/opcode_table.json, and the lanes its formats travel on
(30_encoding R70). -/

namespace Sys2Proof

/-- The place a transmitted byte has in a session. Position alone tells transmitted bytes apart (30_encoding R86): the menu
byte first, then the fields of a frame (R76), then EOT (R81). -/
inductive TxPos where
  | menu | soh | blkNum | blkCmp | data | crcHi | crcLo | eot
  deriving DecidableEq, Repr

/-- What an encoded word travels on. Formats overlap as numbers, so a word is read together with its lane (R70). -/
inductive Lane where
  /-- format (a): ST[3:0] -/
  | st
  /-- format (b): HCMD in bits 1:0, START's LEN operand in the bits above -/
  | hcmd
  /-- format (c): CRC_OP in bits 9:8, DIN in bits 7:0 -/
  | crcOp
  /-- formats (d) and (e): a transmitted byte at a position -/
  | tx (pos : TxPos)
  /-- format (f): a received byte -/
  | rx
  deriving DecidableEq, Repr

/-- The rows of spec/opcode_table.json, in the table's order. -/
inductive Instr where
  -- fsm-state rows (30_encoding R71): the step that ST selects
  | idle | req | go | hdrSoh | hdrNum | hdrCmp | data | crcHi | crcLo | ackWait | prog | eotTx | eotWait | doneOk | doneErr
  | reservedSt
  -- host-op rows (R72)
  | hcmdReserved00
  | start (len : Nat)
  | readStatus
  | hcmdReserved11
  -- crc-op rows (R73)
  | crcHold (din : Byte)
  | crcClear (din : Byte)
  | crcUpdate (din : Byte)
  | crcReserved11 (din : Byte)
  -- wire-tx and wire-frame rows (R76, R81)
  | txMenuUpload (m : Byte)
  | txSoh
  | txBlknum (n : Byte)
  | txBlkcmp (c : Byte)
  | txData (d : Byte)
  | txCrcHi (h : Byte)
  | txCrcLo (l : Byte)
  | txEot
  -- wire-rx rows (R82)
  | rxAck
  | rxGoC
  | rxOther (x : Byte)
  deriving DecidableEq, Repr

end Sys2Proof
end

