-- ==== Sys2Proof/WellFormed.lean ====
section
/-! DEFINITION. When a term of `Instr` is an instruction of the table. -/

namespace Sys2Proof

/-- The row RX_OTHER is "any byte not matched above" (opcode_table.json): neither ACK nor 'C' (30_encoding R82). Every other
operand may take each value of its width. -/
def Instr.wellFormed : Instr → Bool
  | .rxOther x => x != Machine.ackByte && x != Machine.goByte
  | _ => true

end Sys2Proof
end

