-- ==== Sys2Proof/Decode.lean ====
section
/-! DEFINITION. From a word on a lane to an instruction, and back (30_encoding R70 to R73, R76, R81, R82). -/

namespace Sys2Proof

/-- Why a word on a lane is no encoding of the lane's format. -/
inductive DecodeError where
  /-- the word has bits above its format's width (R70); raised by every lane but the host's, safe -/
  | wordTooWide
  /-- an operand on a host command that takes none (R72, R101); safe -/
  | strayOperand
  /-- a byte other than the fixed one of its position: SOH or EOT (R81); safe -/
  | notTheFixedByte
  deriving DecidableEq, Repr

/-- The instruction a state code selects (R71). -/
def decodeState : Nat → Instr
  | 0 => .idle
  | 1 => .req
  | 2 => .go
  | 3 => .hdrSoh
  | 4 => .hdrNum
  | 5 => .hdrCmp
  | 6 => .data
  | 7 => .crcHi
  | 8 => .crcLo
  | 9 => .ackWait
  | 10 => .prog
  | 11 => .eotTx
  | 12 => .eotWait
  | 13 => .doneOk
  | 14 => .doneErr
  | _ => .reservedSt

/-- HCMD[1:0] with the operand above it (R72). START takes LEN, the other commands take none. -/
def decodeHost (w : Nat) : Except DecodeError Instr :=
  if w % 4 = 1 then .ok (.start (w / 4))
  else if w / 4 ≠ 0 then .error .strayOperand
  else if w % 4 = 0 then .ok .hcmdReserved00
  else if w % 4 = 2 then .ok .readStatus
  else .ok .hcmdReserved11

/-- CRC_OP with DIN (R73). -/
def decodeCrc (op : Nat) (din : Byte) : Instr :=
  match op with
  | 0 => .crcHold din
  | 1 => .crcClear din
  | 2 => .crcUpdate din
  | _ => .crcReserved11 din

/-- A transmitted byte at its position (R76, R81). -/
def decodeTx (pos : TxPos) (b : Byte) : Except DecodeError Instr :=
  match pos with
  | .menu => .ok (.txMenuUpload b)
  | .soh => if b = Machine.sohByte then .ok .txSoh else .error .notTheFixedByte
  | .blkNum => .ok (.txBlknum b)
  | .blkCmp => .ok (.txBlkcmp b)
  | .data => .ok (.txData b)
  | .crcHi => .ok (.txCrcHi b)
  | .crcLo => .ok (.txCrcLo b)
  | .eot => if b = Machine.eotByte then .ok .txEot else .error .notTheFixedByte

/-- A received byte, told apart by its value; what it means depends on the state that reads it (R82). -/
def decodeRx (b : Byte) : Instr :=
  if b = Machine.ackByte then .rxAck else if b = Machine.goByte then .rxGoC else .rxOther b

/-- The decoder: total on every word of every lane. -/
def decode (l : Lane) (w : Nat) : Except DecodeError Instr :=
  match l with
  | .st => if w < 16 then .ok (decodeState w) else .error .wordTooWide
  | .hcmd => decodeHost w
  | .crcOp => if w < 1024 then .ok (decodeCrc (w / 256) (BitVec.ofNat 8 w)) else .error .wordTooWide
  | .tx pos => if w < 256 then decodeTx pos (BitVec.ofNat 8 w) else .error .wordTooWide
  | .rx => if w < 256 then .ok (decodeRx (BitVec.ofNat 8 w)) else .error .wordTooWide

/-- The encoder: the lane and the word of an instruction (R71 to R73, R76, R81, R82). -/
def encode : Instr → Lane × Nat
  | .idle => (.st, 0)
  | .req => (.st, 1)
  | .go => (.st, 2)
  | .hdrSoh => (.st, 3)
  | .hdrNum => (.st, 4)
  | .hdrCmp => (.st, 5)
  | .data => (.st, 6)
  | .crcHi => (.st, 7)
  | .crcLo => (.st, 8)
  | .ackWait => (.st, 9)
  | .prog => (.st, 10)
  | .eotTx => (.st, 11)
  | .eotWait => (.st, 12)
  | .doneOk => (.st, 13)
  | .doneErr => (.st, 14)
  | .reservedSt => (.st, 15)
  | .hcmdReserved00 => (.hcmd, 0)
  | .start len => (.hcmd, 4 * len + 1)
  | .readStatus => (.hcmd, 2)
  | .hcmdReserved11 => (.hcmd, 3)
  | .crcHold din => (.crcOp, din.toNat)
  | .crcClear din => (.crcOp, 256 + din.toNat)
  | .crcUpdate din => (.crcOp, 512 + din.toNat)
  | .crcReserved11 din => (.crcOp, 768 + din.toNat)
  | .txMenuUpload m => (.tx .menu, m.toNat)
  | .txSoh => (.tx .soh, Machine.sohByte.toNat)
  | .txBlknum n => (.tx .blkNum, n.toNat)
  | .txBlkcmp c => (.tx .blkCmp, c.toNat)
  | .txData d => (.tx .data, d.toNat)
  | .txCrcHi h => (.tx .crcHi, h.toNat)
  | .txCrcLo l => (.tx .crcLo, l.toNat)
  | .txEot => (.tx .eot, Machine.eotByte.toNat)
  | .rxAck => (.rx, Machine.ackByte.toNat)
  | .rxGoC => (.rx, Machine.goByte.toNat)
  | .rxOther x => (.rx, x.toNat)

/-- The state that sends the byte of a position (R81, 41_xmodem_engine R122 to R129, R132). -/
def TxPos.sender : TxPos → StCode
  | .menu => Machine.stReq
  | .soh => Machine.stHdrSoh
  | .blkNum => Machine.stHdrNum
  | .blkCmp => Machine.stHdrCmp
  | .data => Machine.stData
  | .crcHi => Machine.stCrcHi
  | .crcLo => Machine.stCrcLo
  | .eot => Machine.stEotTx

/-- The field at an offset of the 133-byte frame (R76). -/
def framePos (offset : Nat) : Option TxPos :=
  if offset = 0 then some .soh
  else if offset = 1 then some .blkNum
  else if offset = 2 then some .blkCmp
  else if offset ≤ 130 then some .data
  else if offset = 131 then some .crcHi
  else if offset = 132 then some .crcLo
  else none

/-- The lane of a word that comes without one, by the width of its row (log 13): 2 bits are a host command, 4 bits a state code,
10 bits (16 in whole bytes) a CRC command. Of the 8-bit words the four that a row of the table fixes whole are that row's; a word
that fits ST's four bits is a state code; any other byte is a received one. -/
def tableLane (nbits w : Nat) : Option Lane :=
  if nbits = 2 then some .hcmd
  else if nbits = 4 then some .st
  else if nbits = 10 ∨ nbits = 16 then some .crcOp
  else if nbits = 8 then
    if w = 0x01 then some (.tx .soh)
    else if w = 0x04 then some (.tx .eot)
    else if w = 0x06 ∨ w = 0x43 then some .rx
    else if w < 16 then some .st
    else some .rx
  else none

/-- The instruction the decoder reads from a word of the opcode table (log 13). -/
def decodeTableWord (nbits w : Nat) : Option Instr :=
  match tableLane nbits w with
  | none => none
  | some l => (decode l w).toOption

end Sys2Proof
end

