-- ==== Sys2Proof/Machine/State.lean ====
section
/-! DEFINITION. The state of XMTX and its environment: plain data (10_state R20, 20_memory R50). -/

namespace Sys2Proof.Machine

/-- The image memory: cells with strictly rising addresses; an address that no cell lists holds no byte (R51, log 8). -/
abbrev Memory := List Host.Cell

/-- The link's answer to one `TxByte` (20_memory R55). -/
inductive TxAnswer where
  | ok | fail
  deriving DecidableEq, Repr

/-- One item of the RX stream, in arrival order: a byte of the far end, the closing of the link's idle window, a read failure
(20_memory R56, R57; log 4). -/
inductive RxItem where
  | byte (b : Byte)
  | idle
  | fail
  deriving DecidableEq, Repr

/-- What the event port carries (40_session R104). -/
inductive Event where
  | progress (i n : Nat)
  | done (res : ResCode) (phase : PhaseCode) (idx : Nat)
  deriving DecidableEq, Repr

/-- The tuple READ_STATUS returns, in the order of R34. -/
structure Status where
  st : StCode
  busy : Bool
  done : Bool
  ok : Bool
  res : ResCode
  resPhase : PhaseCode
  resIdx : Nat
  idx : Nat
  nblk : Nat
  pcnt : Nat
  len : Nat
  deriving DecidableEq, Repr

/-- Whose move the next step is (log 2): XFSM's own step, a word that the host, the user of a CRCU or a wire puts on a lane, a reset, or
a write of the image by the environment (40_session R103). -/
inductive Turn where
  | xfsm
  | word (lane : Lane) (w : Nat)
  | reset
  | imageWrite (a : Nat) (b : Byte)
  deriving DecidableEq, Repr

/-- Everything the spec gives the machine, and the environment's draws. -/
structure State where
  /-- `ST`, the control position of XFSM (R21). -/
  st : StCode
  /-- `LEN`, the image length in bytes (R22). -/
  len : Nat
  /-- `NBLK`, the total block count (R23). -/
  nblk : Nat
  /-- `IDX`, the 1-based index of the current block (R24). -/
  idx : Nat
  /-- `K`, the payload bytes of the current block already sent (R25). -/
  k : BitVec 8
  /-- `CRC`, the remainder register of CRCU (R26). -/
  crc : Remainder
  /-- `RES`, the result code (R27). -/
  res : ResCode
  /-- `RES_PHASE`, the phase of an abort (R28). -/
  resPhase : PhaseCode
  /-- `RES_IDX`, the block index an abort recorded (R29). -/
  resIdx : Nat
  /-- `PCNT`, the PROGRESS events emitted in the session (R30). -/
  pcnt : Nat
  /-- The image memory (R51). -/
  image : Memory
  /-- The TX line: the bytes whose `TxByte` answered ok, oldest first (R62). -/
  tx : List Byte
  /-- The events emitted, oldest first (R104). -/
  events : List Event
  /-- The tuples READ_STATUS has returned, oldest first (R101). -/
  statusOut : List Status
  /-- The RX stream not yet consumed, oldest first (R38, R56, R57). -/
  rx : List RxItem
  /-- The link's answers to the next `TxByte`s; a call the list does not reach answers ok (R87; log 3). -/
  txAnswers : List TxAnswer
  /-- The next turns; past its end every turn is XFSM's (R87 "RUN"; log 2). -/
  turns : List Turn
  /-- The CRC register of a CRCU that stands alone, a block of its own (92_eei_decisions D14, R160, R169); no register of XMTX, whose
  CRC XFSM alone commands (R73; log 10). -/
  aloneCrc : Remainder
  /-- The open parameters (R11); no step writes them. -/
  params : Params
  deriving DecidableEq, Repr

/-- Why the machine stops. None of these is an abort of the block: an abort is a next state (60_exceptions R180). -/
inductive Fault where
  /-- ST = 1111, RES in 0x9..0xF or RES_PHASE in 101..111 (R136, 93 I14 and I15). Raised by every step but a reset's, and by the
  meaning of RESERVED_ST. Safe: no rule writes such a code. -/
  | reservedState
  /-- `RxByte` or `RxIdle` that the environment never answers: stuck, not final (R56, R57, R105, 93 I10). Raised by GO, ACK_WAIT and
  EOT_WAIT. Safe: the block has no step there. -/
  | readNeverReturns
  /-- DATA reads an address below LEN at which the image holds no byte (R51; log 8). Safe: START refuses such an image. -/
  | imageByteAbsent (a : Nat)
  deriving DecidableEq, Repr

/-- Inputs the spec gives no meaning: no step is admitted on them. All are safe. -/
inductive Refusal where
  /-- An instruction without a meaning yet; raised by no meaning. -/
  | notModelled (mnemonic : String)
  /-- START while BUSY = 1 (R102 a). Raised by START. -/
  | startWhileBusy
  /-- START with L = 0 (R102 b). Raised by START. -/
  | startEmptyImage
  /-- START with L > MAX_IMAGE_LEN (R102 c). Raised by START. -/
  | startImageTooLong
  /-- START with an image that is not in the memory in full (R202 "If 1 fails, START is refused"). Raised by START. -/
  | startImageNotLoaded
  /-- HCMD 00 or 11 (R102 d, R83). Raised by HCMD_RESERVED_00 and HCMD_RESERVED_11. -/
  | reservedHcmd
  /-- CRC_OP 11 (R169, R83). Raised by CRC_RESERVED_11. -/
  | reservedCrcOp
  /-- A change of the image while BUSY = 1 (R64, R102 e). Raised by an image write's turn. -/
  | imageWriteWhileBusy
  /-- A transmitted byte that the block does not send at this point (R81 "The block sends no other byte"; log 11). Raised by the
  transmitted rows. -/
  | byteNotSentHere
  /-- A state code that ST does not hold, put on a lane from outside: no input writes ST (R21, R35; log 13). Raised by a state code's
  turn. -/
  | stateNotSelected
  /-- A word that is no encoding of its lane's format (log 13). Raised by a word's turn. -/
  | noSuchWord (e : DecodeError)
  deriving DecidableEq, Repr

/-- The outcome of a meaning. -/
abbrev Result := Host.Outcome State Fault Refusal

/-- The machine after reset under given parameters: the registers as R36 states them, nothing sent, read or emitted (R200), nothing
in the environment's lists (log 16). -/
def State.resetWith (p : Params) : State where
  st := stIdle
  len := 0
  nblk := 0
  idx := 0
  k := 0
  crc := 0
  res := resNone
  resPhase := phNa
  resIdx := 0
  pcnt := 0
  image := []
  tx := []
  events := []
  statusOut := []
  rx := []
  txAnswers := []
  turns := []
  aloneCrc := 0
  params := p

/-- The machine right after reset, its open parameters left open (R36, R200; log 1). -/
def State.reset : State := State.resetWith Config.params

end Sys2Proof.Machine
end

