-- ==== Sys2Proof/Machine/Ops.lean ====
section
/-! DEFINITION. The named operations over the image, the registers and the ports, and the abort (60_exceptions R183). -/

namespace Sys2Proof.Machine

/-! ### Image memory (20_memory R51) -/

/-- `MemRead(a, 1)`: the byte at an address, if the image holds one there (R51). -/
def Memory.read : Memory → Nat → Option Byte
  | [], _ => none
  | (x, b) :: m, a => if x = a then some b else Memory.read m a

/-- The environment's write of one image byte (R202 item 1); it keeps the addresses rising. -/
def Memory.write : Memory → Nat → Byte → Memory
  | [], a, b => [(a, b)]
  | (x, c) :: m, a, b =>
    if a < x then (a, b) :: (x, c) :: m
    else if a = x then (a, b) :: m
    else (x, c) :: Memory.write m a b

/-- The canonical form: addresses strictly rising. -/
def Memory.wf : Memory → Bool
  | [] => true
  | [_] => true
  | c :: d :: m => decide (c.1 < d.1) && Memory.wf (d :: m)

/-- The image is "loaded in full into memory": every address below L holds a byte (R202 item 1). -/
def imageLoaded (m : Memory) (len : Nat) : Bool :=
  (List.range len).all fun a => (m.read a).isSome

/-! ### Register writes (00_scope R13: `REG <- v`) -/

/-- `ST <- c`, the control transfer of the block (R13). -/
def State.setSt (s : State) (c : StCode) : State := { s with st := c }
/-- `K <- k`. -/
def State.setK (s : State) (k : BitVec 8) : State := { s with k := k }
/-- `CRC <- c`. -/
def State.setCrc (s : State) (c : Remainder) : State := { s with crc := c }
/-- `RES <- r`. -/
def State.setRes (s : State) (r : ResCode) : State := { s with res := r }
/-- `IDX <- i`. -/
def State.setIdx (s : State) (i : Nat) : State := { s with idx := i }
/-- `PCNT <- n`. -/
def State.setPcnt (s : State) (n : Nat) : State := { s with pcnt := n }
/-- The RX stream after a read or an arrival (R56, R57). -/
def State.setRx (s : State) (q : List RxItem) : State := { s with rx := q }
/-- `emit e` on the event port (R104). -/
def State.emit (s : State) (e : Event) : State := { s with events := s.events ++ [e] }
/-- `CRC <- c` of the CRCU that stands alone (log 10). -/
def State.setAloneCrc (s : State) (c : Remainder) : State := { s with aloneCrc := c }
/-- A tuple handed to the host by READ_STATUS (R101). -/
def State.report (s : State) (r : Status) : State := { s with statusOut := s.statusOut ++ [r] }

/-! ### The abort and the ways out of it (60_exceptions R183, R185) -/

/-- `raise Abort(reason, phase, index)`: RES, RES_PHASE, RES_IDX and ST are written and DONE is emitted; no other register changes
(R183). There is no return from it: DONE_ERR is left only by START and by reset (R185). -/
def State.abort (s : State) (reason : ResCode) (phase : PhaseCode) (index : Nat) : State :=
  { s with
    res := reason
    resPhase := phase
    resIdx := index
    st := stDoneErr
    events := s.events ++ [.done reason phase index] }

/-- Reset of a running block: every register takes its reset value, nothing is sent, read or emitted (R200, R201). The image, the
ports' records and the environment's lists are not registers and stay (log 15). -/
def State.resetRegs (s : State) : State :=
  { s with
    st := stIdle
    len := 0
    nblk := 0
    idx := 0
    k := 0
    crc := 0
    res := resNone
    resPhase := phNa
    resIdx := 0
    pcnt := 0 }

/-- A code that no rule writes stands in ST, RES or RES_PHASE (R35, R136). -/
def State.reservedCode (s : State) : Bool :=
  s.st == stReserved || decide (9 ≤ s.res.toNat) || decide (5 ≤ s.resPhase.toNat)

/-! ### TX port (20_memory R55) -/

/-- The link's answer to the next `TxByte`: the next listed draw, ok past the end of the list (R87; log 3). -/
def State.txAnswer (s : State) : TxAnswer := s.txAnswers.headD .ok

/-- `TxByte(b)`: on ok the byte stands on the line behind every earlier one; on fail none is counted as sent (R55, R62, R140). -/
def State.txByte (s : State) (b : Byte) : State :=
  match s.txAnswer with
  | .ok => { s with tx := s.tx ++ [b], txAnswers := s.txAnswers.tail }
  | .fail => { s with txAnswers := s.txAnswers.tail }

/-- A step that sends: `onOk` are its writes when the link answers ok; on fail it aborts, and no other write of it takes effect
(41_xmodem_engine R122 to R129, R132). -/
def State.sendByte (s : State) (b : Byte) (reason : ResCode) (phase : PhaseCode) (index : Nat) (onOk : State → State) : State :=
  match s.txAnswer with
  | .ok => onOk (s.txByte b)
  | .fail => (s.txByte b).abort reason phase index

/-! ### RX port (20_memory R56, R57; log 4) -/

/-- The three outcomes of `RxByte` (R56), with what is left of the stream. -/
inductive RxByteAnswer where
  | byte (b : Byte) (rest : List RxItem)
  | fail (rest : List RxItem)
  | never
  deriving DecidableEq, Repr

/-- `RxByte()`: the oldest byte no read has consumed, or a failure; it blocks over closings of the idle window, and for ever on an
exhausted stream (R56, R87). -/
def rxTakeByte : List RxItem → RxByteAnswer
  | [] => .never
  | .idle :: q => rxTakeByte q
  | .fail :: q => .fail q
  | .byte b :: q => .byte b q

/-- The three outcomes of `RxIdle` (R57), with what is left of the stream. -/
inductive RxIdleAnswer where
  | reply (bytes : List Byte) (rest : List RxItem)
  | fail (rest : List RxItem)
  | never
  deriving DecidableEq, Repr

/-- The bytes an idle-read gathers: until the window closes, the stream ends or fails, or `max_len` bytes are read; the bytes after
that stay in the link (R57). -/
def rxCollect : Nat → List RxItem → List Byte × List RxItem
  | 0, q => ([], q)
  | _ + 1, [] => ([], [])
  | _ + 1, .idle :: q => ([], q)
  | _ + 1, .fail :: q => ([], .fail :: q)
  | n + 1, .byte b :: q => (b :: (rxCollect n q).1, (rxCollect n q).2)

/-- `RxIdle()` with `max_len = IDLE_MAX` (R57, D11). -/
def rxTakeIdle (max : Nat) (q : List RxItem) : RxIdleAnswer :=
  match q with
  | [] => .never
  | .fail :: q => .fail q
  | q => .reply (rxCollect max q).1 (rxCollect max q).2

/-! ### Turns (log 2) -/

/-- Whose move the next step is. -/
def State.nextTurn (s : State) : Turn := s.turns.headD .xfsm

/-- The state with its next turn taken off the list. -/
def State.dropTurn (s : State) : State := { s with turns := s.turns.tail }

end Sys2Proof.Machine
end

