-- ==== Sys2Proof/Machine/Flags.lean ====
section
/-! DEFINITION. The three status flags, each a function of ST (10_state R33), and the status tuple (R34). -/

namespace Sys2Proof.Machine

/-- `BUSY = ST ∉ {IDLE, DONE_OK, DONE_ERR}` (R33). -/
def State.isBusy (s : State) : Bool := !(s.st == stIdle || s.st == stDoneOk || s.st == stDoneErr)

/-- `DONE = ST ∈ {DONE_OK, DONE_ERR}` (R33). -/
def State.isDone (s : State) : Bool := s.st == stDoneOk || s.st == stDoneErr

/-- `OK = (ST = DONE_OK)` (R33). -/
def State.isOk (s : State) : Bool := s.st == stDoneOk

/-- The tuple READ_STATUS returns; CRC and K are not in it (R34). -/
def State.statusTuple (s : State) : Status where
  st := s.st
  busy := s.isBusy
  done := s.isDone
  ok := s.isOk
  res := s.res
  resPhase := s.resPhase
  resIdx := s.resIdx
  idx := s.idx
  nblk := s.nblk
  pcnt := s.pcnt
  len := s.len

end Sys2Proof.Machine
end

