-- ==== Sys2Proof/Machine/Crc.lean ====
section
/-! DEFINITION. CRCU: the update function, its equivalent forms, and the crc-op rows (42_crc16). -/

namespace Sys2Proof.Machine

/-- `CRC_POLY` (00_scope R10). -/
def crcPoly : Remainder := 0x1021
/-- `CRC_INIT` (R10, R163); never 0xFFFF (90_conflicts C1). -/
def crcInit : Remainder := 0x0000
/-- `CRC_XOROUT`: "no final XOR" (R10). -/
def crcXorOut : Remainder := 0x0000

/-- One of the 8 iterations of R161: the bit shifted out of bit 15 decides whether the polynomial is XORed in. -/
def crcShift (c : Remainder) : Remainder :=
  if c.getLsbD 15 then (c <<< 1) ^^^ crcPoly else c <<< 1

/-- `n` iterations of R161. -/
def crcShifts : Nat → Remainder → Remainder
  | 0, c => c
  | n + 1, c => crcShifts n (crcShift c)

/-- `crc_update(c, b)`: the byte is XORed into bits 15:8, then 8 iterations (R161). -/
def crcUpdate (c : Remainder) (b : Byte) : Remainder :=
  crcShifts 8 (c ^^^ (b.setWidth 16 <<< 8))

/-- `crc16(s)`: the fold of `crc_update` from the initial remainder, with no final XOR (R165). -/
def crc16 (s : List Byte) : Remainder := s.foldl crcUpdate crcInit ^^^ crcXorOut

/-- One input bit of the bit-serial form (R166): the feedback is bit 15 XOR the input bit. -/
def crcSerialBit (c : Remainder) (bit : Bool) : Remainder :=
  if c.getLsbD 15 ^^ bit then (c <<< 1) ^^^ crcPoly else c <<< 1

/-- The bit-serial form: the bits 7 down to 0 of the byte in turn (R166). -/
def crcBitSerial (c : Remainder) (b : Byte) : Remainder :=
  [7, 6, 5, 4, 3, 2, 1, 0].foldl (fun c i => crcSerialBit c (b.getLsbD i)) c

/-- `T[i] = crc_update(0x0000, i)` (R167). -/
def crcTable (i : Byte) : Remainder := crcUpdate 0x0000 i

/-- The table form (R167). -/
def crcTableForm (c : Remainder) (b : Byte) : Remainder :=
  (c <<< 8) ^^^ crcTable ((c >>> 8).setWidth 8 ^^^ b)

/-- CRC_HOLD keeps the remainder; DIN is ignored (R162). -/
def execCrcHold (_din : Byte) (s : State) : Result := .next (s.setCrc s.crc)

/-- CRC_CLEAR loads the initial remainder; DIN is ignored (R163). -/
def execCrcClear (_din : Byte) (s : State) : Result := .next (s.setCrc crcInit)

/-- CRC_UPDATE folds DIN into the remainder (R164). -/
def execCrcUpdate (din : Byte) (s : State) : Result := .next (s.setCrc (crcUpdate s.crc din))

/-- CRC_OP = 11 is reserved and refused (R169). -/
def execCrcReserved11 (_din : Byte) (_s : State) : Result := .refused .reservedCrcOp

end Sys2Proof.Machine
end

