-- ==== Sys2Proof/Machine/Operands.lean ====
section
/-! DEFINITION. How each field value is formed (30_encoding R85) and the frame (R76). -/

namespace Sys2Proof.Machine

/-- `ceil(L / 128)`, the block count of an image of L bytes (10_state R23). -/
def blocksOf (len : Nat) : Nat := (len + (blockSize - 1)) / blockSize

/-- `PLEN = 128 × ceil(LEN / 128)` (20_memory R53). -/
def paddedLen (len : Nat) : Nat := blockSize * blocksOf len

/-- `BLK = IDX mod 256` (R77). -/
def blkField (idx : Nat) : Byte := BitVec.ofNat 8 (idx % 256)

/-- `CMP = 255 − BLK` (R78). -/
def cmpField (idx : Nat) : Byte := BitVec.ofNat 8 (255 - idx % 256)

/-- The image address of payload byte k of block idx (R85, 20_memory R54). -/
def dataAddr (idx k : Nat) : Nat := blockSize * (idx - 1) + k

/-- `PadByte(a)`: the image byte below LEN, the fill byte from LEN on, read from no memory (20_memory R52). -/
def padByte (img : Memory) (len a : Nat) : Option Byte :=
  if a < len then img.read a else some fillByte

/-- `CRCH = CRC[15:8]` (R80, R85). -/
def crcHiField (c : Remainder) : Byte := c.extractLsb' 8 8

/-- `CRCL = CRC[7:0]` (R80, R85). -/
def crcLoField (c : Remainder) : Byte := c.extractLsb' 0 8

/-- `P_i`: the payload of block i in increasing address order (20_memory R54, 41_xmodem_engine R137). An address that holds no
byte, which no accepted session has below LEN, stands as the fill byte here. -/
def payload (img : Memory) (len i : Nat) : List Byte :=
  (List.range blockSize).map fun k => (padByte img len (dataAddr i k)).getD fillByte

/-- The header of block i: SOH, BLK, CMP (R76). -/
def frameHeader (i : Nat) : List Byte := [sohByte, blkField i, cmpField i]

/-- `Frame(i)`: header, payload, CRC of the payload alone, high byte first (R76, R80). -/
def frameBytes (img : Memory) (len i : Nat) : List Byte :=
  frameHeader i ++ payload img len i ++
    [crcHiField (crc16 (payload img len i)), crcLoField (crc16 (payload img len i))]

end Sys2Proof.Machine
end

