-- ==== Sys2Proof/Machine/HostOps.lean ====
section
/-! DEFINITION. The host-op rows (40_session). -/

namespace Sys2Proof.Machine

/-- The register writes of an accepted START (R100). It sends no byte and emits no event. -/
def State.startSession (s : State) (len : Nat) : State :=
  { s with
    len := len
    nblk := blocksOf len
    idx := 1
    k := 0
    crc := crcInit
    res := resBusy
    resPhase := phNa
    resIdx := 0
    pcnt := 0
    st := stReq }

/-- START(L): refused while BUSY, with L = 0, with L > MAX_IMAGE_LEN (R102), with an image that is not loaded (R202); else a session
begins (R100). -/
def execStart (len : Nat) (s : State) : Result :=
  if s.isBusy then .refused .startWhileBusy
  else if len = 0 then .refused .startEmptyImage
  else if s.params.maxImageLen < len then .refused .startImageTooLong
  else if imageLoaded s.image len then .next (s.startSession len)
  else .refused .startImageNotLoaded

/-- READ_STATUS: the status tuple is handed to the host, in every state; no register changes (R101). -/
def execReadStatus (s : State) : Result := .next (s.report s.statusTuple)

/-- HCMD = 00 is refused (R102 d). -/
def execHcmdReserved00 (_s : State) : Result := .refused .reservedHcmd

/-- HCMD = 11 is refused (R102 d). -/
def execHcmdReserved11 (_s : State) : Result := .refused .reservedHcmd

end Sys2Proof.Machine
end

