-- ==== Sys2Proof/Machine/Xfsm.lean ====
section
/-! DEFINITION. The fsm-state rows: one XFSM step for each state (41_xmodem_engine). The steps stand first as shared operations, since
the wire rows of Machine/Wire.lean are the same steps seen on a port. -/

namespace Sys2Proof.Machine

/-- REQ's step: the menu byte (R122). -/
def State.sendMenu (s : State) : State :=
  s.sendByte s.params.menuUploadByte resMenuSelectFailed phRequestTransfer 0 fun t => t.setSt stGo

/-- A send of the block loop: a failed write is IO_ERROR in BLOCK_LOOP with RES_IDX = IDX (R124 to R129, R181). -/
def State.sendInBlock (s : State) (b : Byte) (onOk : State → State) : State :=
  s.sendByte b resIoError phBlockLoop s.idx onOk

/-- HDR_SOH's step: SOH; CRC_CLEAR; K <- 0 (R124). -/
def State.sendSoh (s : State) : State :=
  s.sendInBlock sohByte fun t => ((t.setCrc crcInit).setK 0).setSt stHdrNum

/-- HDR_NUM's step: the wire block number (R125). -/
def State.sendBlkNum (s : State) : State :=
  s.sendInBlock (blkField s.idx) fun t => t.setSt stHdrCmp

/-- HDR_CMP's step: its complement (R126). -/
def State.sendBlkCmp (s : State) : State :=
  s.sendInBlock (cmpField s.idx) fun t => t.setSt stData

/-- DATA's writes after a successful send: CRC_UPDATE, K <- k1 = K + 1, and CRC_HI follows when k1 = 128 (R127). -/
def State.foldData (s : State) (b : Byte) : State :=
  ((s.setCrc (crcUpdate s.crc b)).setK (BitVec.ofNat 8 (s.k.toNat + 1))).setSt
    (if s.k.toNat + 1 = blockSize then stCrcHi else stData)

/-- The byte DATA sends next (R127, R52). -/
def State.dataByte (s : State) : Option Byte := padByte s.image s.len (dataAddr s.idx s.k.toNat)

/-- DATA's step: payload byte K of block IDX (R127). -/
def State.sendData (s : State) : Result :=
  match s.dataByte with
  | none => .fault (.imageByteAbsent (dataAddr s.idx s.k.toNat))
  | some b => .next (s.sendInBlock b fun t => t.foldData b)

/-- CRC_HI's step: CRC[15:8]; the remainder is held (R128). -/
def State.sendCrcHi (s : State) : State :=
  s.sendInBlock (crcHiField s.crc) fun t => t.setSt stCrcLo

/-- CRC_LO's step: CRC[7:0]; the remainder is held (R129). -/
def State.sendCrcLo (s : State) : State :=
  s.sendInBlock (crcLoField s.crc) fun t => t.setSt stAckWait

/-- EOT_TX's step: EOT; a failed write is IO_ERROR in END_OF_TRANSMISSION with index 0 (R132). -/
def State.sendEot (s : State) : State :=
  s.sendByte eotByte resIoError phEndOfTransmission 0 fun t => t.setSt stEotWait

/-- GO's classification of the reply: emptiness before the last byte (R123, R184). -/
def State.classifyGo (s : State) (reply : List Byte) : State :=
  match reply.getLast? with
  | none => s.abort resNoGoAhead phAwaitGoAhead 0
  | some b => if b = goByte then s.setSt stHdrSoh else s.abort resUnexpectedTransferType phAwaitGoAhead 0

/-- GO's step: an idle-read whose reply must end in 'C' (R123). -/
def State.readGo (s : State) : Result :=
  match rxTakeIdle s.params.idleMax s.rx with
  | .never => .fault .readNeverReturns
  | .fail rest => .next ((s.setRx rest).abort resIoError phAwaitGoAhead 0)
  | .reply bytes rest => .next ((s.setRx rest).classifyGo bytes)

/-- ACK_WAIT's step: exactly one reply byte, which must be ACK (R130). -/
def State.readAck (s : State) : Result :=
  match rxTakeByte s.rx with
  | .never => .fault .readNeverReturns
  | .fail rest => .next ((s.setRx rest).abort resBlockTransferFailed phBlockLoop s.idx)
  | .byte b rest =>
    .next (if b = ackByte then (s.setRx rest).setSt stProg
      else (s.setRx rest).abort resBlockTransferFailed phBlockLoop s.idx)

/-- PROG's step: PROGRESS(IDX, NBLK), PCNT + 1, then EOT_TX after the last block, else the next block (R131). -/
def State.progress (s : State) : State :=
  let t := (s.emit (.progress s.idx s.nblk)).setPcnt (s.pcnt + 1)
  if s.idx = s.nblk then t.setSt stEotTx else (t.setIdx (s.idx + 1)).setSt stHdrSoh

/-- The end of a confirmed session: RES <- SUCCESS, DONE_OK, DONE emitted (R133). -/
def State.succeed (s : State) : State :=
  ((s.setRes resSuccess).setSt stDoneOk).emit (.done resSuccess phNa 0)

/-- EOT_WAIT's classification of the reply: only its first byte is tested (R133). -/
def State.classifyEot (s : State) (reply : List Byte) : State :=
  if reply.head? = some ackByte then s.succeed else s.abort resTransferNotConfirmed phEndOfTransmission 0

/-- EOT_WAIT's step: an idle-read whose first byte must be ACK (R133). -/
def State.readEot (s : State) : Result :=
  match rxTakeIdle s.params.idleMax s.rx with
  | .never => .fault .readNeverReturns
  | .fail rest => .next ((s.setRx rest).abort resIoError phEndOfTransmission 0)
  | .reply bytes rest => .next ((s.setRx rest).classifyEot bytes)

/-- IDLE has no XFSM step: the block rests until START (R121; log 6). -/
def execIdle (s : State) : Result := .next s
/-- REQ (R122). -/
def execReq (s : State) : Result := .next s.sendMenu
/-- GO (R123). -/
def execGo (s : State) : Result := s.readGo
/-- HDR_SOH (R124). -/
def execHdrSoh (s : State) : Result := .next s.sendSoh
/-- HDR_NUM (R125). -/
def execHdrNum (s : State) : Result := .next s.sendBlkNum
/-- HDR_CMP (R126). -/
def execHdrCmp (s : State) : Result := .next s.sendBlkCmp
/-- DATA (R127). -/
def execData (s : State) : Result := s.sendData
/-- CRC_HI (R128). -/
def execCrcHi (s : State) : Result := .next s.sendCrcHi
/-- CRC_LO (R129). -/
def execCrcLo (s : State) : Result := .next s.sendCrcLo
/-- ACK_WAIT (R130). -/
def execAckWait (s : State) : Result := s.readAck
/-- PROG (R131). -/
def execProg (s : State) : Result := .next s.progress
/-- EOT_TX (R132). -/
def execEotTx (s : State) : Result := .next s.sendEot
/-- EOT_WAIT (R133). -/
def execEotWait (s : State) : Result := s.readEot
/-- DONE_OK has no XFSM step: the block rests until START or reset (R134; log 6). -/
def execDoneOk (s : State) : Result := .next s
/-- DONE_ERR has no XFSM step: the block rests until START or reset (R135; log 6). -/
def execDoneErr (s : State) : Result := .next s
/-- ST = 1111: the model's own fault (R136). -/
def execReservedSt (_s : State) : Result := .fault .reservedState

end Sys2Proof.Machine
end

