-- ==== Sys2Proof/Machine/Wire.lean ====
section
/-! DEFINITION. The wire rows. A transmitted byte is the step of the one state that sends it (30_encoding R81; log 11); a received byte
arrives on the RX stream and is read by the state that waits for it (R82, 20_memory R56, R57; log 12). -/

namespace Sys2Proof.Machine

/-- A byte the block sends only under a condition: elsewhere "the block sends no other byte" (R81). -/
def sentOnly (here : Bool) (r : Result) : Result := if here then r else .refused .byteNotSentHere

/-- TX_MENU_UPLOAD: in REQ, and only the byte MENU_UPLOAD_BYTE (R122). -/
def execTxMenuUpload (m : Byte) (s : State) : Result :=
  sentOnly (s.st == TxPos.sender .menu && m == s.params.menuUploadByte) (.next s.sendMenu)
/-- TX_SOH: in HDR_SOH (R124). -/
def execTxSoh (s : State) : Result := sentOnly (s.st == TxPos.sender .soh) (.next s.sendSoh)
/-- TX_BLKNUM: in HDR_NUM, and only IDX mod 256 (R125). -/
def execTxBlknum (n : Byte) (s : State) : Result :=
  sentOnly (s.st == TxPos.sender .blkNum && n == blkField s.idx) (.next s.sendBlkNum)
/-- TX_BLKCMP: in HDR_CMP, and only 255 − (IDX mod 256) (R126). -/
def execTxBlkcmp (c : Byte) (s : State) : Result :=
  sentOnly (s.st == TxPos.sender .blkCmp && c == cmpField s.idx) (.next s.sendBlkCmp)
/-- TX_DATA: in DATA, and only PadByte(128(IDX − 1) + K) (R127). -/
def execTxData (d : Byte) (s : State) : Result :=
  sentOnly (s.st == TxPos.sender .data && s.dataByte == some d) s.sendData
/-- TX_CRC_HI: in CRC_HI, and only CRC[15:8] (R128). -/
def execTxCrcHi (h : Byte) (s : State) : Result :=
  sentOnly (s.st == TxPos.sender .crcHi && h == crcHiField s.crc) (.next s.sendCrcHi)
/-- TX_CRC_LO: in CRC_LO, and only CRC[7:0] (R129). -/
def execTxCrcLo (l : Byte) (s : State) : Result :=
  sentOnly (s.st == TxPos.sender .crcLo && l == crcLoField s.crc) (.next s.sendCrcLo)
/-- TX_EOT: in EOT_TX (R132). -/
def execTxEot (s : State) : Result := sentOnly (s.st == TxPos.sender .eot) (.next s.sendEot)

/-- A byte of the far end arrives behind the bytes no read has consumed (R38, R56). A waiting GO, ACK_WAIT or EOT_WAIT reads the
stream at once (R123, R130, R133); in any other state the byte stays for a later read (R205). -/
def State.receive (s : State) (b : Byte) : Result :=
  let t := s.setRx (s.rx ++ [.byte b])
  if s.st = stGo then t.readGo
  else if s.st = stAckWait then t.readAck
  else if s.st = stEotWait then t.readEot
  else .next t

/-- RX_ACK: the byte 0x06 (R82, R130, R133). -/
def execRxAck (s : State) : Result := s.receive ackByte
/-- RX_GO_C: the byte 0x43 (R82, R123). -/
def execRxGoC (s : State) : Result := s.receive goByte
/-- RX_OTHER: any other byte; where a read tests it, the session aborts (R82, R181). -/
def execRxOther (x : Byte) (s : State) : Result := s.receive x

end Sys2Proof.Machine
end

