-- ==== Sys2Proof/Machine/Dispatch.lean ====
section
/-! DEFINITION. One arm for each row of spec/opcode_table.json. -/

namespace Sys2Proof.Machine

open Sys2Proof

def exec (i : Instr) (s : State) : Host.Outcome State Fault Refusal :=
  match i with
  | .idle => Sys2Proof.Machine.execIdle s
  | .req => Sys2Proof.Machine.execReq s
  | .go => Sys2Proof.Machine.execGo s
  | .hdrSoh => Sys2Proof.Machine.execHdrSoh s
  | .hdrNum => Sys2Proof.Machine.execHdrNum s
  | .hdrCmp => Sys2Proof.Machine.execHdrCmp s
  | .data => Sys2Proof.Machine.execData s
  | .crcHi => Sys2Proof.Machine.execCrcHi s
  | .crcLo => Sys2Proof.Machine.execCrcLo s
  | .ackWait => Sys2Proof.Machine.execAckWait s
  | .prog => Sys2Proof.Machine.execProg s
  | .eotTx => Sys2Proof.Machine.execEotTx s
  | .eotWait => Sys2Proof.Machine.execEotWait s
  | .doneOk => Sys2Proof.Machine.execDoneOk s
  | .doneErr => Sys2Proof.Machine.execDoneErr s
  | .reservedSt => Sys2Proof.Machine.execReservedSt s
  | .hcmdReserved00 => Sys2Proof.Machine.execHcmdReserved00 s
  | .start len => Sys2Proof.Machine.execStart len s
  | .readStatus => Sys2Proof.Machine.execReadStatus s
  | .hcmdReserved11 => Sys2Proof.Machine.execHcmdReserved11 s
  | .crcHold din => Sys2Proof.Machine.execCrcHold din s
  | .crcClear din => Sys2Proof.Machine.execCrcClear din s
  | .crcUpdate din => Sys2Proof.Machine.execCrcUpdate din s
  | .crcReserved11 din => Sys2Proof.Machine.execCrcReserved11 din s
  | .txMenuUpload m => Sys2Proof.Machine.execTxMenuUpload m s
  | .txSoh => Sys2Proof.Machine.execTxSoh s
  | .txBlknum n => Sys2Proof.Machine.execTxBlknum n s
  | .txBlkcmp c => Sys2Proof.Machine.execTxBlkcmp c s
  | .txData d => Sys2Proof.Machine.execTxData d s
  | .txCrcHi h => Sys2Proof.Machine.execTxCrcHi h s
  | .txCrcLo l => Sys2Proof.Machine.execTxCrcLo l s
  | .txEot => Sys2Proof.Machine.execTxEot s
  | .rxAck => Sys2Proof.Machine.execRxAck s
  | .rxGoC => Sys2Proof.Machine.execRxGoC s
  | .rxOther x => Sys2Proof.Machine.execRxOther x s

end Sys2Proof.Machine
end

