-- ==== Sys2Proof/Machine/Fetch.lean ====
section
/-! DEFINITION. What a step runs: XFSM's own instruction is selected by ST (10_state R32); a word on a lane is decoded; reset and image
writes are inputs without an instruction (40_session R103). -/

namespace Sys2Proof.Machine

/-- The instruction ST selects (R32, R71). -/
def State.xfsmInstr (s : State) : Instr := decodeState s.st.toNat

/-- A CRC command on the CRCU that stands alone: the same meaning, on that unit's own CRC register. XMTX's CRC stays as it is, since
XFSM is the only issuer of its commands (R31, R73; 92_eei_decisions D14; log 10). -/
def State.runAlone (s : State) (i : Instr) : Result :=
  match exec i (s.setCrc s.aloneCrc) with
  | .next t => .next ((t.setAloneCrc t.crc).setCrc s.crc)
  | .fault r => .fault r
  | .refused r => .refused r

/-- A word on a lane. A CRC command from outside is one for the CRCU that stands alone (log 10). A state code runs only as the one ST
holds, since no input writes ST (R21, R35; log 13). -/
def State.runWord (s : State) (l : Lane) (w : Nat) : Result :=
  if l = .st ∧ w ≠ s.st.toNat then .refused .stateNotSelected
  else
    match decode l w with
    | .error e => .refused (.noSuchWord e)
    | .ok i => if l = .crcOp then s.runAlone i else exec i s

/-- One turn. -/
def State.runTurn (s : State) (t : Turn) : Result :=
  match t with
  | .xfsm => exec s.xfsmInstr s
  | .word l w => s.runWord l w
  | .reset => .next s.resetRegs
  | .imageWrite a b =>
    if s.isBusy then .refused .imageWriteWhileBusy else .next { s with image := s.image.write a b }

/-- One step: a reserved code is a fault (R136) unless the turn is a reset, which may come at any time (R103). -/
def State.runStep (s : State) : Result :=
  if s.reservedCode = true ∧ s.nextTurn ≠ .reset then .fault .reservedState
  else s.dropTurn.runTurn s.nextTurn

/-- A word of the opcode table placed where the next step fetches it (log 14): a state code in ST with XFSM's turn next, a transmitted
byte at the state that sends it, any other word on its lane as the next turn. -/
def State.placeWord (s : State) (nbits w : Nat) : State :=
  match tableLane nbits w with
  | none => s
  | some .st => { s with st := BitVec.ofNat 4 w, turns := .xfsm :: s.turns }
  | some (.tx pos) => { s with st := pos.sender, turns := .word (.tx pos) w :: s.turns }
  | some l => { s with turns := .word l w :: s.turns }

end Sys2Proof.Machine
end

