-- ==== Sys2Proof/Safety.lean ====
section
/-! DEFINITION. What the statements claim of a state: the invariants of 10_state R37, what a session has sent (41_xmodem_engine R137)
and how many XFSM steps it has left. -/

namespace Sys2Proof.Machine

/-- The states of the block loop and of the two phases before it: every busy state up to PROG. -/
def State.inBody (s : State) : Bool := decide (1 ≤ s.st.toNat ∧ s.st.toNat ≤ 10)

/-- EOT_TX and EOT_WAIT. -/
def State.inClosing (s : State) : Bool := s.st == stEotTx || s.st == stEotWait

/-- The abort codes of R74. -/
def isAbortCode (r : ResCode) : Bool := decide (3 ≤ r.toNat ∧ r.toNat ≤ 8)

/-- The invariants (a) to (g) of R37, word for word. -/
structure State.Rule37 (s : State) : Prop where
  a : s.st = stIdle ↔ s.res = resNone
  b : s.isBusy = true → s.res = resBusy ∧ 1 ≤ s.len ∧ 1 ≤ s.idx ∧ s.idx ≤ s.nblk
  c : s.st = stData → s.k.toNat ≤ 127
  d : (s.st = stCrcHi ∨ s.st = stCrcLo ∨ s.st = stAckWait ∨ s.st = stProg) → s.k.toNat = 128
  e : s.st = stDoneOk → s.res = resSuccess ∧ s.pcnt = s.nblk
  f : s.st = stDoneErr → isAbortCode s.res = true
  g : s.pcnt ≤ s.idx

/-- What every step keeps: R37, legal codes (R35), NBLK = ceil(LEN/128) (R23), block 1 first and no abort recorded
while BUSY (R100), the progress count of each phase (R30, R138), K = 0
after SOH (R124), a loaded image below MAX_IMAGE_LEN while BUSY (R64, R100, R202), the canonical form of the image and the
bounds of the parameters (R11). -/
structure State.Inv (s : State) : Prop where
  rule37 : s.Rule37
  legal : s.reservedCode = false
  blocks : s.nblk = blocksOf s.len
  opening : (s.st = stReq ∨ s.st = stGo) → s.idx = 1
  noAbortYet : s.isBusy = true → s.resPhase = phNa ∧ s.resIdx = 0
  bodyCount : s.inBody = true → s.pcnt + 1 = s.idx
  closingCount : s.inClosing = true → s.pcnt = s.nblk ∧ s.idx = s.nblk
  header : (s.st = stHdrNum ∨ s.st = stHdrCmp) → s.k = 0
  loaded : s.isBusy = true → s.len ≤ s.params.maxImageLen ∧ imageLoaded s.image s.len = true
  imageForm : s.image.wf = true
  paramsLegal : s.params.Legal

/-- The frames of blocks 1 to n, in order. -/
def framesUpTo (img : Memory) (len : Nat) : Nat → List Byte
  | 0 => []
  | n + 1 => framesUpTo img len n ++ frameBytes img len (n + 1)

/-- The whole byte sequence of a confirmed session (R137). -/
def State.fullSession (s : State) : List Byte :=
  [s.params.menuUploadByte] ++ framesUpTo s.image s.len s.nblk ++ [eotByte]

/-- The menu byte and the frames of blocks 1 to n. -/
def State.sentBlocks (s : State) (n : Nat) : List Byte :=
  [s.params.menuUploadByte] ++ framesUpTo s.image s.len n

/-- The bytes a session has sent when it stands in state s: the part of R137's sequence that lies before the control position
(ST, IDX, K) (R32). Nothing in the states outside a running or confirmed session. -/
def State.sessionSent (s : State) : List Byte :=
  let p := payload s.image s.len s.idx
  match s.st.toNat with
  | 1 => []
  | 2 => [s.params.menuUploadByte]
  | 3 => s.sentBlocks (s.idx - 1)
  | 4 => s.sentBlocks (s.idx - 1) ++ [sohByte]
  | 5 => s.sentBlocks (s.idx - 1) ++ [sohByte, blkField s.idx]
  | 6 => s.sentBlocks (s.idx - 1) ++ frameHeader s.idx ++ p.take s.k.toNat
  | 7 => s.sentBlocks (s.idx - 1) ++ frameHeader s.idx ++ p
  | 8 => s.sentBlocks (s.idx - 1) ++ frameHeader s.idx ++ p ++ [crcHiField (crc16 p)]
  | 9 => s.sentBlocks s.idx
  | 10 => s.sentBlocks s.idx
  | 11 => s.sentBlocks s.nblk
  | 12 => s.sentBlocks s.nblk ++ [eotByte]
  | 13 => s.sentBlocks s.nblk ++ [eotByte]
  | _ => []

/-- The remainder each state of a block stands with: 0 behind SOH, the CRC of the bytes sent so far in DATA, the block's checksum in
CRC_HI and CRC_LO (R124, R127, R165). -/
def State.CrcTracks (s : State) : Prop :=
  ((s.st = stHdrNum ∨ s.st = stHdrCmp) → s.crc = 0) ∧
  (s.st = stData → s.crc = crc16 ((payload s.image s.len s.idx).take s.k.toNat)) ∧
  ((s.st = stCrcHi ∨ s.st = stCrcLo) → s.crc = crc16 (payload s.image s.len s.idx))

/-- The session's bytes stand on the line behind the bytes `base` of earlier sessions, and CRC is the remainder of the block. -/
def State.TxTracks (base : List Byte) (s : State) : Prop := s.tx = base ++ s.sessionSent ∧ s.CrcTracks

/-- XFSM steps until DONE_OK when nothing fails: 135 a block, 4 around them (R137). 0 outside a session. -/
def State.stepsLeft (s : State) : Nat :=
  let later := 135 * (s.nblk - s.idx) + 2
  match s.st.toNat with
  | 1 => 4 + 135 * s.nblk
  | 2 => 3 + 135 * s.nblk
  | 3 => later + 135
  | 4 => later + 134
  | 5 => later + 133
  | 6 => later + (128 - s.k.toNat) + 4
  | 7 => later + 4
  | 8 => later + 3
  | 9 => later + 2
  | 10 => later + 1
  | 11 => 2
  | 12 => 1
  | _ => 0

/-- The ten registers of R20, in the table's order. -/
def State.registers (s : State) :
    StCode × Nat × Nat × Nat × BitVec 8 × Remainder × ResCode × PhaseCode × Nat × Nat :=
  (s.st, s.len, s.nblk, s.idx, s.k, s.crc, s.res, s.resPhase, s.resIdx, s.pcnt)

/-- The rows of R181's table, one disjunct a row: the result, phase and index an abort raised in the state records. -/
def State.AbortRow (s : State) (r : ResCode) (p : PhaseCode) (i : Nat) : Prop :=
  (s.st = stReq ∧ r = resMenuSelectFailed ∧ p = phRequestTransfer ∧ i = 0) ∨
  (s.st = stGo ∧ (r = resNoGoAhead ∨ r = resUnexpectedTransferType ∨ r = resIoError) ∧ p = phAwaitGoAhead ∧ i = 0) ∨
  ((s.st = stHdrSoh ∨ s.st = stHdrNum ∨ s.st = stHdrCmp ∨ s.st = stData ∨ s.st = stCrcHi ∨ s.st = stCrcLo) ∧
    r = resIoError ∧ p = phBlockLoop ∧ i = s.idx) ∨
  (s.st = stAckWait ∧ r = resBlockTransferFailed ∧ p = phBlockLoop ∧ i = s.idx) ∨
  (s.st = stEotTx ∧ r = resIoError ∧ p = phEndOfTransmission ∧ i = 0) ∨
  (s.st = stEotWait ∧ (r = resIoError ∨ r = resTransferNotConfirmed) ∧ p = phEndOfTransmission ∧ i = 0)

/-- The part of the state that decides what XFSM does next: all of it but the image, CRC and the TX line (30_encoding R79). -/
def State.control (s : State) : State := { s with image := [], crc := 0, tx := [] }

end Sys2Proof.Machine
end

