-- ==== Sys2Proof/Certificates/Slice0/Obligations.lean ====
section
/-! DEFINITION. The statements about XMTX, from the numbered rules of spec/. -/

open Sys2Proof Sys2Proof.Machine

/-! The next states the statements name, spelled out from R55 and R183. -/

/-- The link answered ok to `TxByte(b)`: b stands on the line, the answer is used up (R55). -/
def Sys2Proof.Claims.sent (s : State) (b : Byte) : State :=
  { s with tx := s.tx ++ [b], txAnswers := s.txAnswers.tail }

/-- The link answered fail: nothing counts as sent, the answer is used up (R55). -/
def Sys2Proof.Claims.unsent (s : State) : State := { s with txAnswers := s.txAnswers.tail }

/-- The whole effect of an abort (R183). -/
def Sys2Proof.Claims.aborted (s : State) (r : ResCode) (p : PhaseCode) (i : Nat) : State :=
  { s with res := r, resPhase := p, resIdx := i, st := stDoneErr, events := s.events ++ [.done r p i] }

/-- The byte at an offset of the frame f decodes, on the lane of that offset, to the given instruction, and that encodes to it. -/
def Sys2Proof.Claims.readsAs (f : List Byte) (offset : Nat) (ins : Instr) : Prop :=
  ∃ pos b, framePos offset = some pos ∧ f[offset]? = some b ∧ decode (.tx pos) b.toNat = .ok ins ∧ encode ins = (.tx pos, b.toNat)

open Sys2Proof.Claims

/-! ### Encodings -/

/-- Encoding and decoding again gives every well-formed instruction back, each operand at each of its values (R71 to R73, R76, R82). -/
def Obligations.DecodeEncodeAgree : Prop :=
  ∀ i : Instr, i.wellFormed = true → decode (encode i).1 (encode i).2 = .ok i

/-- The decoder reads well-formed instructions only, and every word it accepts is the encoding of what it read. -/
def Obligations.EncodeDecodeAgree : Prop :=
  ∀ (l : Lane) (w : Nat) (i : Instr), decode l w = .ok i → i.wellFormed = true ∧ encode i = (l, w)

/-- Words written out from the tables of R71, R72, R73, R76, R81 and R82 decode to the instructions they stand for. The place of START's
LEN, above the two bits of HCMD, is the model's choice (log 13): R72 gives LEN no place in the word. -/
def Obligations.SpecWordsDecode : Prop :=
  decode .st 0b0000 = .ok .idle ∧ decode .st 0b0110 = .ok .data ∧ decode .st 0b1110 = .ok .doneErr ∧
  decode .st 0b1111 = .ok .reservedSt ∧ decode .hcmd 0b10010110001 = .ok (.start 300) ∧
  decode .hcmd 0b10 = .ok .readStatus ∧ decode .crcOp 0b1001010110 = .ok (.crcUpdate 0x56) ∧
  decode .crcOp 0b0100000000 = .ok (.crcClear 0) ∧ decode (.tx .soh) 0b00000001 = .ok .txSoh ∧
  decode (.tx .blkNum) 0b11111111 = .ok (.txBlknum 255) ∧ decode (.tx .eot) 0b00000100 = .ok .txEot ∧
  decode .rx 0b00000110 = .ok .rxAck ∧ decode .rx 0b01000011 = .ok .rxGoC ∧ decode .rx 0b00010101 = .ok (.rxOther 0x15)

/-- The layout of a block's 133-byte frame (R76): SOH, BLK, CMP, the 128 payload bytes, CRC high byte, CRC low byte. -/
def Obligations.FrameLayout : Prop :=
  ∀ (img : Memory) (len i : Nat),
    (frameBytes img len i).length = 133 ∧
    (frameBytes img len i)[0]? = some 0x01 ∧
    (frameBytes img len i)[1]? = some (blkField i) ∧
    (frameBytes img len i)[2]? = some (cmpField i) ∧
    (∀ k < 128, ∀ b, padByte img len (128 * (i - 1) + k) = some b → (frameBytes img len i)[3 + k]? = some b) ∧
    (∃ p, p.length = 128 ∧ (frameBytes img len i).drop 3 = p ++ [crcHiField (crc16 p), crcLoField (crc16 p)])

/-- What each offset of a frame holds (R76, R85): 0 SOH, 1 the block number, 2 its complement, 3 + k the payload byte k, 131 and 132 the
CRC's high and low byte. The byte there decodes at that offset to the row of its field, and encodes back; past offset 132 there is none. -/
def Obligations.FrameFieldsDecodeInPlace : Prop :=
  (∀ (img : Memory) (len i : Nat),
    readsAs (frameBytes img len i) 0 .txSoh ∧
    readsAs (frameBytes img len i) 1 (.txBlknum (blkField i)) ∧
    readsAs (frameBytes img len i) 2 (.txBlkcmp (cmpField i)) ∧
    (∀ k < 128, ∀ b, padByte img len (128 * (i - 1) + k) = some b → readsAs (frameBytes img len i) (3 + k) (.txData b)) ∧
    readsAs (frameBytes img len i) 131 (.txCrcHi (crcHiField (crc16 (payload img len i)))) ∧
    readsAs (frameBytes img len i) 132 (.txCrcLo (crcLoField (crc16 (payload img len i))))) ∧
  (∀ off : Nat, framePos off = none ↔ 133 ≤ off)

/-- The wire block number is IDX mod 256, 0x00 exactly for multiples of 256, and the complement is 255 less it (R77, R78). -/
def Obligations.BlockNumberAndComplement : Prop :=
  ∀ idx : Nat,
    (blkField idx).toNat = idx % 256 ∧
    (blkField idx = 0x00 ↔ 256 ∣ idx) ∧
    (cmpField idx).toNat = 255 - (blkField idx).toNat ∧
    cmpField idx = ~~~ blkField idx ∧
    cmpField idx = blkField idx ^^^ 0xFF ∧
    (blkField idx).toNat + (cmpField idx).toNat = 255

/-- PLEN is the smallest multiple of 128 that is at least LEN; below LEN the padded image is the image, from LEN to PLEN it is 0xFF
(R52, R53). -/
def Obligations.PaddingFillsTheLastBlock : Prop :=
  ∀ (img : Memory) (len : Nat), 0 < len →
    128 ∣ paddedLen len ∧ len ≤ paddedLen len ∧ (∀ m, 128 ∣ m → len ≤ m → paddedLen len ≤ m) ∧
    paddedLen len - len ≤ 127 ∧
    (∀ a < len, padByte img len a = img.read a) ∧
    (∀ a, len ≤ a → a < paddedLen len → padByte img len a = some 0xFF)

/-! ### CRCU -/

/-- The three CRC operations complete in every state: HOLD keeps CRC, CLEAR writes 0x0000, UPDATE writes crc_update(CRC, DIN); nothing
else changes (R162, R163, R164). The values of crc_update that R164 lists. -/
def Obligations.CrcOpsWriteOnlyCrc : Prop :=
  (∀ (s : State) (din : Byte),
    exec (.crcHold din) s = .next s ∧
    exec (.crcClear din) s = .next { s with crc := 0x0000 } ∧
    exec (.crcUpdate din) s = .next { s with crc := crcUpdate s.crc din }) ∧
  crcUpdate 0x0000 0x00 = 0x0000 ∧ crcUpdate 0x0000 0x01 = 0x1021 ∧ crcUpdate 0x0000 0x80 = 0x9188 ∧
  crcUpdate 0x0000 0xFF = 0x1EF0 ∧ crcUpdate 0x8000 0x00 = 0x9188 ∧ crcUpdate 0xFFFF 0x00 = 0xE1F0 ∧
  crcUpdate 0x1234 0x56 = 0x3C40

/-- The bit-serial form gives the same remainder (R166). -/
def Obligations.BitSerialFormAgrees : Prop :=
  ∀ (c : Remainder) (b : Byte), crcBitSerial c b = crcUpdate c b

/-- The table form gives the same remainder, and crc_update is linear over GF(2) in both arguments (R167). -/
def Obligations.TableFormAgrees : Prop :=
  (∀ (c : Remainder) (b : Byte), crcTableForm c b = crcUpdate c b) ∧
  (∀ (c c' : Remainder) (b b' : Byte), crcUpdate (c ^^^ c') (b ^^^ b') = crcUpdate c b ^^^ crcUpdate c' b') ∧
  (∀ (c : Remainder) (b : Byte), crcUpdate c b = crcUpdate c 0 ^^^ crcUpdate 0 b)

/-- crc16 is the fold of crc_update from 0x0000 in order, with no final XOR (R165). -/
def Obligations.Crc16FoldsInOrder : Prop :=
  crc16 [] = 0x0000 ∧ ∀ (s : List Byte) (b : Byte), crc16 (s ++ [b]) = crcUpdate (crc16 s) b

/-- crc16 of any all-zero sequence is 0x0000 (R168 a). -/
def Obligations.Crc16OfZerosIsZero : Prop :=
  ∀ n : Nat, crc16 (List.replicate n 0x00) = 0x0000

/-- crc16 of a bytewise XOR of sequences of equal length is the XOR of their crc16s (R168 b). -/
def Obligations.Crc16IsLinear : Prop :=
  ∀ x y : List Byte, x.length = y.length → crc16 (List.zipWith (· ^^^ ·) x y) = crc16 x ^^^ crc16 y

/-- A sequence followed by its own checksum, high byte first, has checksum 0x0000 (R168 c). -/
def Obligations.Crc16ResidueIsZero : Prop :=
  ∀ s : List Byte, crc16 (s ++ [crcHiField (crc16 s), crcLoField (crc16 s)]) = 0x0000

/-- Flipping one bit of one byte changes the checksum (R168 d). -/
def Obligations.Crc16DetectsOneBit : Prop :=
  ∀ (x y : List Byte) (b : Byte) (j : Nat), j < 8 →
    crc16 (x ++ (b ^^^ (1#8 <<< j)) :: y) ≠ crc16 (x ++ b :: y)

/-! ### Host operations -/

/-- START(L) from IDLE, DONE_OK or DONE_ERR with 1 ≤ L ≤ MAX_IMAGE_LEN and a loaded image completes with exactly R100's writes; no byte is
sent, no event emitted, nothing else changes. In any other state, and with any other L, it is refused. (An image that is not loaded:
RefusedHostInputs.) -/
def Obligations.StartBeginsSession : Prop :=
  ∀ (s : State) (L : Nat),
    ((s.st = stIdle ∨ s.st = stDoneOk ∨ s.st = stDoneErr) → 1 ≤ L → L ≤ s.params.maxImageLen →
      (∀ a < L, (s.image.read a).isSome = true) →
      exec (.start L) s = .next { s with
        len := L, nblk := (L + 127) / 128, idx := 1, k := 0, crc := 0x0000, res := resBusy, resPhase := phNa, resIdx := 0,
        pcnt := 0, st := stReq }) ∧
    (¬ ((s.st = stIdle ∨ s.st = stDoneOk ∨ s.st = stDoneErr) ∧ 1 ≤ L ∧ L ≤ s.params.maxImageLen) →
      ∃ r, exec (.start L) s = .refused r)

/-- The inputs R102 refuses: START while BUSY, with L = 0, with L > MAX_IMAGE_LEN; HCMD 00 and 11; an image write while BUSY. And R202's
"If 1 fails, START is refused": START with a legal L in a resting state, an image byte below L absent. That an absent byte is what it is
for the image not to be loaded in full is the model's reading (log 8), and the names of the refusals are the model's. -/
def Obligations.RefusedHostInputs : Prop :=
  (∀ (s : State) (L : Nat), s.isBusy = true ∨ L = 0 ∨ s.params.maxImageLen < L → ∃ r, exec (.start L) s = .refused r) ∧
  (∀ (s : State) (L a : Nat), (s.st = stIdle ∨ s.st = stDoneOk ∨ s.st = stDoneErr) → 1 ≤ L → L ≤ s.params.maxImageLen →
    a < L → s.image.read a = none → exec (.start L) s = .refused .startImageNotLoaded) ∧
  (∀ s : State, exec .hcmdReserved00 s = .refused .reservedHcmd ∧ exec .hcmdReserved11 s = .refused .reservedHcmd) ∧
  (∀ (s : State) (a : Nat) (b : Byte), s.nextTurn = .imageWrite a b → s.isBusy = true → s.reservedCode = false →
    step s = .refused .imageWriteWhileBusy)

/-- READ_STATUS completes in every state: it hands over the tuple of R34, its flags functions of ST (R33), and changes nothing else
(R101). -/
def Obligations.ReadStatusReturnsTuple : Prop :=
  ∀ s : State, exec .readStatus s = .next { s with
    statusOut := s.statusOut ++ [
      { st := s.st
        busy := decide (s.st ≠ stIdle ∧ s.st ≠ stDoneOk ∧ s.st ≠ stDoneErr)
        done := decide (s.st = stDoneOk ∨ s.st = stDoneErr)
        ok := decide (s.st = stDoneOk)
        res := s.res, resPhase := s.resPhase, resIdx := s.resIdx, idx := s.idx, nblk := s.nblk, pcnt := s.pcnt
        len := s.len }] }

/-- The host writes registers only through START (R35): no other command of its lane changes one, and neither does a write of the
image. -/
def Obligations.HostWritesOnlyThroughStart : Prop :=
  ∀ (s t : State), step s = .next t →
    (∀ w, s.nextTurn = .word .hcmd w → (∀ L, decode .hcmd w ≠ .ok (.start L)) → t.registers = s.registers) ∧
    (∀ a b, s.nextTurn = .imageWrite a b → t.registers = s.registers)

/-- What the reserved encodings do (R83, R136, R169): ST = 1111 is the fault reservedState, CRC_OP 11 is refused, and any reserved code
in ST, RES or RES_PHASE stops every step but a reset's. -/
def Obligations.ReservedEncodingsStop : Prop :=
  (∀ s : State, exec .reservedSt s = .fault .reservedState) ∧
  (∀ (s : State) (din : Byte), exec (.crcReserved11 din) s = .refused .reservedCrcOp) ∧
  (∀ s : State, (s.st = stReserved ∨ 9 ≤ s.res.toNat ∨ 5 ≤ s.resPhase.toNat) → s.nextTurn ≠ .reset →
    step s = .fault .reservedState)

/-! ### XFSM, state by state -/

/-- IDLE, DONE_OK and DONE_ERR have no XFSM step: the block rests, all of it unchanged. That resting is a next state and not a stop is
the model's choice (log 6); that nothing changes is R121, R134 and R135. -/
def Obligations.RestingStatesHold : Prop :=
  ∀ s : State, exec .idle s = .next s ∧ exec .doneOk s = .next s ∧ exec .doneErr s = .next s

/-- REQ (R122): the menu byte, then GO; on a failed write the abort MENU_SELECT_FAILED in REQUEST_TRANSFER with index 0. -/
def Obligations.ReqSendsMenuByte : Prop :=
  ∀ s : State,
    (s.txAnswer = .ok → exec .req s = .next { sent s s.params.menuUploadByte with st := stGo }) ∧
    (s.txAnswer = .fail →
      exec .req s = .next (aborted (unsent s) resMenuSelectFailed phRequestTransfer 0))

/-- GO (R123): the read's failure, then emptiness, then the reply's last byte decide; only a reply ending in 'C' goes on to HDR_SOH. -/
def Obligations.GoNeedsReplyEndingInC : Prop :=
  ∀ (s : State) (rest : List RxItem),
    (rxTakeIdle s.params.idleMax s.rx = .fail rest →
      exec .go s = .next (aborted { s with rx := rest } resIoError phAwaitGoAhead 0)) ∧
    (rxTakeIdle s.params.idleMax s.rx = .reply [] rest →
      exec .go s = .next (aborted { s with rx := rest } resNoGoAhead phAwaitGoAhead 0)) ∧
    (∀ pre b, rxTakeIdle s.params.idleMax s.rx = .reply (pre ++ [b]) rest → b ≠ 0x43 →
      exec .go s = .next (aborted { s with rx := rest } resUnexpectedTransferType phAwaitGoAhead 0)) ∧
    (∀ pre, rxTakeIdle s.params.idleMax s.rx = .reply (pre ++ [0x43]) rest →
      exec .go s = .next { s with rx := rest, st := stHdrSoh })

/-- HDR_SOH (R124): SOH; CRC and K cleared for every block; a failed write aborts with IO_ERROR in BLOCK_LOOP with index IDX. -/
def Obligations.HdrSohStartsFrame : Prop :=
  ∀ s : State,
    (s.txAnswer = .ok → exec .hdrSoh s = .next { sent s 0x01 with crc := 0x0000, k := 0, st := stHdrNum }) ∧
    (s.txAnswer = .fail → exec .hdrSoh s = .next (aborted (unsent s) resIoError phBlockLoop s.idx))

/-- HDR_NUM (R125): the byte IDX mod 256; a failed write aborts with IO_ERROR in BLOCK_LOOP with index IDX. -/
def Obligations.HdrNumSendsBlockNumber : Prop :=
  ∀ s : State,
    (s.txAnswer = .ok → exec .hdrNum s = .next { sent s (BitVec.ofNat 8 s.idx) with st := stHdrCmp }) ∧
    (s.txAnswer = .fail → exec .hdrNum s = .next (aborted (unsent s) resIoError phBlockLoop s.idx))

/-- HDR_CMP (R126): the byte 255 − (IDX mod 256); a failed write aborts with IO_ERROR in BLOCK_LOOP with index IDX. -/
def Obligations.HdrCmpSendsComplement : Prop :=
  ∀ s : State,
    (s.txAnswer = .ok → exec .hdrCmp s = .next { sent s (255#8 - BitVec.ofNat 8 s.idx) with st := stData }) ∧
    (s.txAnswer = .fail → exec .hdrCmp s = .next (aborted (unsent s) resIoError phBlockLoop s.idx))

/-- DATA (R127): the padded-image byte at 128(IDX − 1) + K, folded into CRC after a successful write only; the block is over when
K + 1 = 128. On a failed write K and CRC stay. -/
def Obligations.DataSendsPayloadByte : Prop :=
  ∀ (s : State) (b : Byte), padByte s.image s.len (128 * (s.idx - 1) + s.k.toNat) = some b →
    (s.txAnswer = .ok → s.k.toNat < 127 →
      exec .data s = .next { sent s b with crc := crcUpdate s.crc b, k := s.k + 1, st := stData }) ∧
    (s.txAnswer = .ok → s.k = 127 →
      exec .data s = .next { sent s b with crc := crcUpdate s.crc b, k := 128, st := stCrcHi }) ∧
    (s.txAnswer = .fail → exec .data s = .next (aborted (unsent s) resIoError phBlockLoop s.idx))

/-- CRC_HI (R128): the high CRC byte, CRC held. -/
def Obligations.CrcHiSendsHighByte : Prop :=
  ∀ s : State,
    (s.txAnswer = .ok → exec .crcHi s = .next { sent s (BitVec.ofNat 8 (s.crc.toNat / 256)) with st := stCrcLo }) ∧
    (s.txAnswer = .fail → exec .crcHi s = .next (aborted (unsent s) resIoError phBlockLoop s.idx))

/-- CRC_LO (R129): the low CRC byte, CRC held. -/
def Obligations.CrcLoSendsLowByte : Prop :=
  ∀ s : State,
    (s.txAnswer = .ok → exec .crcLo s = .next { sent s (BitVec.ofNat 8 (s.crc.toNat % 256)) with st := stAckWait }) ∧
    (s.txAnswer = .fail → exec .crcLo s = .next (aborted (unsent s) resIoError phBlockLoop s.idx))

/-- ACK_WAIT (R130): one reply byte; ACK goes on to PROG, any other byte and a read failure abort with the full block index. A read that
never returns leaves it stuck (R56); that the stop is a fault, and its name, are the model's (log 5). -/
def Obligations.AckWaitPollsOneByte : Prop :=
  ∀ (s : State) (rest : List RxItem),
    (rxTakeByte s.rx = .byte 0x06 rest → exec .ackWait s = .next { s with rx := rest, st := stProg }) ∧
    (∀ b, rxTakeByte s.rx = .byte b rest → b ≠ 0x06 →
      exec .ackWait s = .next (aborted { s with rx := rest } resBlockTransferFailed phBlockLoop s.idx)) ∧
    (rxTakeByte s.rx = .fail rest →
      exec .ackWait s = .next (aborted { s with rx := rest } resBlockTransferFailed phBlockLoop s.idx)) ∧
    (rxTakeByte s.rx = .never → exec .ackWait s = .fault .readNeverReturns)

/-- PROG (R131) completes in every state: PROGRESS(IDX, NBLK), PCNT + 1, then EOT_TX after the last block and the next block otherwise. -/
def Obligations.ProgReportsAndSelects : Prop :=
  ∀ s : State,
    (s.idx = s.nblk → exec .prog s = .next { s with
      events := s.events ++ [.progress s.idx s.nblk], pcnt := s.pcnt + 1, st := stEotTx }) ∧
    (s.idx ≠ s.nblk → exec .prog s = .next { s with
      events := s.events ++ [.progress s.idx s.nblk], pcnt := s.pcnt + 1, idx := s.idx + 1, st := stHdrSoh })

/-- EOT_TX (R132): EOT, then EOT_WAIT; on a failed write the abort IO_ERROR in END_OF_TRANSMISSION with index 0. -/
def Obligations.EotTxSendsEot : Prop :=
  ∀ s : State,
    (s.txAnswer = .ok → exec .eotTx s = .next { sent s 0x04 with st := stEotWait }) ∧
    (s.txAnswer = .fail → exec .eotTx s = .next (aborted (unsent s) resIoError phEndOfTransmission 0))

/-- EOT_WAIT (R133): only the reply's first byte is tested; ACK there ends the session with SUCCESS and its DONE event. -/
def Obligations.EotWaitNeedsAckFirst : Prop :=
  ∀ (s : State) (rest : List RxItem),
    (rxTakeIdle s.params.idleMax s.rx = .fail rest →
      exec .eotWait s = .next (aborted { s with rx := rest } resIoError phEndOfTransmission 0)) ∧
    (rxTakeIdle s.params.idleMax s.rx = .reply [] rest →
      exec .eotWait s = .next (aborted { s with rx := rest } resTransferNotConfirmed phEndOfTransmission 0)) ∧
    (∀ b more, rxTakeIdle s.params.idleMax s.rx = .reply (b :: more) rest → b ≠ 0x06 →
      exec .eotWait s = .next (aborted { s with rx := rest } resTransferNotConfirmed phEndOfTransmission 0)) ∧
    (∀ more, rxTakeIdle s.params.idleMax s.rx = .reply (0x06 :: more) rest →
      exec .eotWait s = .next { s with
        rx := rest, res := resSuccess, st := stDoneOk, events := s.events ++ [.done resSuccess phNa 0] })

/-- A read that the environment never answers has no step: on an exhausted stream GO, ACK_WAIT and EOT_WAIT are stuck, under a fault
name of the model's own (R56, R57; log 5). -/
def Obligations.UnansweredReadIsStuck : Prop :=
  ∀ s : State, s.rx = [] →
    exec .go s = .fault .readNeverReturns ∧ exec .ackWait s = .fault .readNeverReturns ∧
    exec .eotWait s = .fault .readNeverReturns

/-! ### Wire rows -/

/-- Each transmitted row completes where the block sends its byte, and is then the ok case of the sending state's rule (R122, R124 to
R129, R132, R81); that a wire row is its sender's step is the model's choice (log 11). -/
def Obligations.TransmittedRowsComplete : Prop :=
  ∀ s : State, s.txAnswer = .ok →
    (s.st = stReq → exec (.txMenuUpload s.params.menuUploadByte) s =
      .next { sent s s.params.menuUploadByte with st := stGo }) ∧
    (s.st = stHdrSoh → exec .txSoh s = .next { sent s 0x01 with crc := 0x0000, k := 0, st := stHdrNum }) ∧
    (s.st = stHdrNum → exec (.txBlknum (BitVec.ofNat 8 s.idx)) s =
      .next { sent s (BitVec.ofNat 8 s.idx) with st := stHdrCmp }) ∧
    (s.st = stHdrCmp → exec (.txBlkcmp (255#8 - BitVec.ofNat 8 s.idx)) s =
      .next { sent s (255#8 - BitVec.ofNat 8 s.idx) with st := stData }) ∧
    (∀ b, s.st = stData → s.k.toNat < 127 → padByte s.image s.len (128 * (s.idx - 1) + s.k.toNat) = some b →
      exec (.txData b) s = .next { sent s b with crc := crcUpdate s.crc b, k := s.k + 1, st := stData }) ∧
    (∀ b, s.st = stData → s.k = 127 → padByte s.image s.len (128 * (s.idx - 1) + 127) = some b →
      exec (.txData b) s = .next { sent s b with crc := crcUpdate s.crc b, k := 128, st := stCrcHi }) ∧
    (s.st = stCrcHi → exec (.txCrcHi (BitVec.ofNat 8 (s.crc.toNat / 256))) s =
      .next { sent s (BitVec.ofNat 8 (s.crc.toNat / 256)) with st := stCrcLo }) ∧
    (s.st = stCrcLo → exec (.txCrcLo (BitVec.ofNat 8 (s.crc.toNat % 256))) s =
      .next { sent s (BitVec.ofNat 8 (s.crc.toNat % 256)) with st := stAckWait }) ∧
    (s.st = stEotTx → exec .txEot s = .next { sent s 0x04 with st := stEotWait })

/-- Each transmitted row aborts as its sender does when the link answers fail (R181; log 11). -/
def Obligations.TransmittedRowsAbort : Prop :=
  ∀ s : State, s.txAnswer = .fail →
    (s.st = stReq → exec (.txMenuUpload s.params.menuUploadByte) s =
      .next (aborted (unsent s) resMenuSelectFailed phRequestTransfer 0)) ∧
    (s.st = stHdrSoh → exec .txSoh s = .next (aborted (unsent s) resIoError phBlockLoop s.idx)) ∧
    (s.st = stHdrNum → exec (.txBlknum (blkField s.idx)) s = .next (aborted (unsent s) resIoError phBlockLoop s.idx)) ∧
    (s.st = stHdrCmp → exec (.txBlkcmp (cmpField s.idx)) s = .next (aborted (unsent s) resIoError phBlockLoop s.idx)) ∧
    (∀ b, s.st = stData → padByte s.image s.len (128 * (s.idx - 1) + s.k.toNat) = some b →
      exec (.txData b) s = .next (aborted (unsent s) resIoError phBlockLoop s.idx)) ∧
    (s.st = stCrcHi → exec (.txCrcHi (crcHiField s.crc)) s = .next (aborted (unsent s) resIoError phBlockLoop s.idx)) ∧
    (s.st = stCrcLo → exec (.txCrcLo (crcLoField s.crc)) s = .next (aborted (unsent s) resIoError phBlockLoop s.idx)) ∧
    (s.st = stEotTx → exec .txEot s = .next (aborted (unsent s) resIoError phEndOfTransmission 0))

/-- The block sends no other byte (R81): a transmitted row is refused away from its state and with any other value. The name of the
refusal is the model's (log 11). -/
def Obligations.NoOtherByteIsSent : Prop :=
  ∀ (s : State) (v : Byte),
    (s.st ≠ stReq ∨ v ≠ s.params.menuUploadByte → exec (.txMenuUpload v) s = .refused .byteNotSentHere) ∧
    (s.st ≠ stHdrSoh → exec .txSoh s = .refused .byteNotSentHere) ∧
    (s.st ≠ stHdrNum ∨ v.toNat ≠ s.idx % 256 → exec (.txBlknum v) s = .refused .byteNotSentHere) ∧
    (s.st ≠ stHdrCmp ∨ v.toNat ≠ 255 - s.idx % 256 → exec (.txBlkcmp v) s = .refused .byteNotSentHere) ∧
    (s.st ≠ stData ∨ padByte s.image s.len (128 * (s.idx - 1) + s.k.toNat) ≠ some v →
      exec (.txData v) s = .refused .byteNotSentHere) ∧
    (s.st ≠ stCrcHi ∨ v.toNat ≠ s.crc.toNat / 256 → exec (.txCrcHi v) s = .refused .byteNotSentHere) ∧
    (s.st ≠ stCrcLo ∨ v.toNat ≠ s.crc.toNat % 256 → exec (.txCrcLo v) s = .refused .byteNotSentHere) ∧
    (s.st ≠ stEotTx → exec .txEot s = .refused .byteNotSentHere)

/-- A received byte b on an otherwise empty stream completes the waiting read, which classifies it as R82 says: in GO only 'C' goes on, in
ACK_WAIT and EOT_WAIT only ACK. It holds of RX_ACK (b = 0x06), RX_GO_C (b = 0x43) and RX_OTHER (any other b) alike; that the row both
arrives and is read is the model's choice (log 12). -/
def Obligations.ReceivedByteIsClassified : Prop :=
  ∀ (s : State) (i : Instr) (b : Byte),
    ((i = .rxAck ∧ b = 0x06) ∨ (i = .rxGoC ∧ b = 0x43) ∨ (i = .rxOther b ∧ b ≠ 0x06 ∧ b ≠ 0x43)) →
    s.rx = [] → 1 ≤ s.params.idleMax →
    (s.st = stGo → b = 0x43 → exec i s = .next { s with st := stHdrSoh }) ∧
    (s.st = stGo → b ≠ 0x43 → exec i s = .next (aborted s resUnexpectedTransferType phAwaitGoAhead 0)) ∧
    (s.st = stAckWait → b = 0x06 → exec i s = .next { s with st := stProg }) ∧
    (s.st = stAckWait → b ≠ 0x06 → exec i s = .next (aborted s resBlockTransferFailed phBlockLoop s.idx)) ∧
    (s.st = stEotWait → b = 0x06 → exec i s = .next { s with
      res := resSuccess, st := stDoneOk, events := s.events ++ [.done resSuccess phNa 0] }) ∧
    (s.st = stEotWait → b ≠ 0x06 → exec i s = .next (aborted s resTransferNotConfirmed phEndOfTransmission 0))

/-- A received byte joins the stream behind the bytes no read has consumed: in a waiting state the read then runs on that stream, so a
stale byte is answered first (R56, R205); in every other state the byte stays for a later read and nothing else changes (R38; log 12). -/
def Obligations.ReceivedByteJoinsTheStream : Prop :=
  ∀ (s : State) (i : Instr) (b : Byte), ((i = .rxAck ∧ b = 0x06) ∨ (i = .rxGoC ∧ b = 0x43) ∨ i = .rxOther b) →
    (s.st = stGo → exec i s = exec .go { s with rx := s.rx ++ [.byte b] }) ∧
    (s.st = stAckWait → exec i s = exec .ackWait { s with rx := s.rx ++ [.byte b] }) ∧
    (s.st = stEotWait → exec i s = exec .eotWait { s with rx := s.rx ++ [.byte b] }) ∧
    (s.st ≠ stGo → s.st ≠ stAckWait → s.st ≠ stEotWait → exec i s = .next { s with rx := s.rx ++ [.byte b] })

/-! ### Ports -/

/-- The idle-read (R57): a reply holds at most max_len bytes, the oldest ones in arrival order, and the bytes behind it stay; every reply
of at most max_len bytes can be drawn, and so can a failure and no return at all. -/
def Obligations.IdleReadReturnsArrivals : Prop :=
  ∀ max : Nat, 1 ≤ max →
    (∀ q bytes rest, rxTakeIdle max q = .reply bytes rest →
      bytes.length ≤ max ∧ (q = bytes.map .byte ++ rest ∨ q = bytes.map .byte ++ .idle :: rest)) ∧
    (∀ bytes rest, bytes.length < max → rxTakeIdle max (bytes.map .byte ++ .idle :: rest) = .reply bytes rest) ∧
    (∀ bytes rest, bytes.length = max → rxTakeIdle max (bytes.map .byte ++ rest) = .reply bytes rest) ∧
    (∀ rest, rxTakeIdle max (.fail :: rest) = .fail rest) ∧
    rxTakeIdle max [] = .never

/-- The byte read (R56): it waits over any number of closings of the idle window for the oldest byte or a failure, and never returns
where neither comes. -/
def Obligations.ByteReadTakesTheOldest : Prop :=
  ∀ (n : Nat) (rest : List RxItem),
    (∀ b, rxTakeByte (List.replicate n .idle ++ .byte b :: rest) = .byte b rest) ∧
    rxTakeByte (List.replicate n .idle ++ .fail :: rest) = .fail rest ∧
    rxTakeByte (List.replicate n .idle) = .never

/-! ### Whole-machine rules -/

/-- A step runs the decoded instruction, with no reserved code standing. XFSM's turn runs the instruction whose code ST holds (R32, R120).
A word's turn runs the instruction its lane decodes: a state code only as ST's own, any other is refused (log 13); a CRC command on the CRC
of the CRCU that stands alone, with XMTX's CRC kept (log 10); a word that does not decode is refused (log 13). The turn is taken off the
list first (log 2). -/
def Obligations.StepRunsDecodedInstruction : Prop :=
  ∀ s : State, s.reservedCode = false →
    (∀ i, s.nextTurn = .xfsm → decode .st s.st.toNat = .ok i → step s = exec i { s with turns := s.turns.tail }) ∧
    (∀ l w i, s.nextTurn = .word l w → decode l w = .ok i → l ≠ .crcOp → (l = .st → w = s.st.toNat) →
      step s = exec i { s with turns := s.turns.tail }) ∧
    (∀ w i t, s.nextTurn = .word .crcOp w → decode .crcOp w = .ok i →
      exec i { s with turns := s.turns.tail, crc := s.aloneCrc } = .next t →
      step s = .next { t with crc := s.crc, aloneCrc := t.crc }) ∧
    (∀ w i r, s.nextTurn = .word .crcOp w → decode .crcOp w = .ok i →
      exec i { s with turns := s.turns.tail, crc := s.aloneCrc } = .refused r → step s = .refused r) ∧
    (∀ w, s.nextTurn = .word .st w → w ≠ s.st.toNat → step s = .refused .stateNotSelected) ∧
    (∀ l w e, s.nextTurn = .word l w → l ≠ .st → decode l w = .error e → step s = .refused (.noSuchWord e))

/-- Reset (R36, R200, R201): the registers take their reset values at power-on and on a reset at any time, a session running or not; no
byte is sent, no read made, no event emitted. That the image, the parameters, the draws and the records stay is the model's choice
(log 15), and so is that a reset runs also where a reserved code stands (log 17). -/
def Obligations.ResetRestoresRegisters : Prop :=
  State.reset.registers = (0x0, 0, 0, 0, 0, 0x0000, 0x0, 0, 0, 0) ∧
  ∀ s : State, s.nextTurn = .reset → ∃ t, step s = .next t ∧
    t.registers = (0x0, 0, 0, 0, 0, 0x0000, 0x0, 0, 0, 0) ∧
    t.tx = s.tx ∧ t.rx = s.rx ∧ t.txAnswers = s.txAnswers ∧ t.events = s.events ∧ t.statusOut = s.statusOut ∧
    t.image = s.image ∧ t.params = s.params

/-- The invariants of R37, with what makes them inductive, hold at reset. -/
def Obligations.InvariantsHoldAtReset : Prop := State.reset.Inv

/-- Every step, from any state that meets the invariants, leads to a state that meets them (R37, R23, R35, R64; NBLK = ceil(LEN/128)). -/
def Obligations.EveryStepKeepsInvariants : Prop :=
  ∀ s t : State, s.Inv → step s = .next t → t.Inv

/-- The TX line of a session (R137, R140): from an accepted START on, the bytes on the line are at every moment exactly the part of
`menu, Frame(1), …, Frame(NBLK), EOT` that lies before the control position, and CRC is the remainder of the bytes of the block; a step
that aborts adds no byte. -/
def Obligations.SessionBytesAreTheFrames : Prop :=
  (∀ (s t : State) (L : Nat), exec (.start L) s = .next t → t.TxTracks s.tx) ∧
  (∀ (base : List Byte) (s t : State), s.Inv → s.isBusy = true → s.TxTracks base → step s = .next t →
    (t.isBusy = true ∨ t.st = stDoneOk → t.TxTracks base) ∧ (t.st = stDoneErr → t.tx = base ++ s.sessionSent))

/-- What a session has sent is always a prefix of R137's sequence, of 2 + 133 × NBLK bytes, and in DONE_OK it is all of it (R137, R140). -/
def Obligations.SentBytesArePrefix : Prop :=
  ∀ s : State, s.Inv → (s.isBusy = true ∨ s.st = stDoneOk) →
    s.sessionSent <+: s.fullSession ∧ s.fullSession.length = 2 + 133 * s.nblk ∧
    (s.st = stDoneOk → s.sessionSent = s.fullSession)

/-- Every abort is a row of R181's table, and it is the whole effect of its step (R183): but for RES, RES_PHASE, RES_IDX, ST and the DONE
event only the environment's lists move; no byte is sent. -/
def Obligations.AbortsArePrecise : Prop :=
  ∀ s t : State, step s = .next t → s.st ≠ stDoneErr → t.st = stDoneErr →
    ∃ r p i, s.AbortRow r p i ∧
      t = { aborted s r p i with rx := t.rx, txAnswers := t.txAnswers, turns := s.turns.tail }

/-- Events (R104, R188): a step emits at most one; PROGRESS(IDX, NBLK) comes from PROG alone; the step that ends a session, and no other,
emits DONE with the result, phase and index the registers then hold. -/
def Obligations.EventsComeFromTheirSteps : Prop :=
  ∀ s t : State, s.Inv → step s = .next t →
    ((s.isBusy = true ∧ t.isDone = true) → t.events = s.events ++ [.done t.res t.resPhase t.resIdx]) ∧
    (¬ (s.isBusy = true ∧ t.isDone = true) →
      t.events = s.events ∨ (s.st = stProg ∧ t.events = s.events ++ [.progress s.idx s.nblk] ∧ t.pcnt = s.pcnt + 1))

/-- One step sends at most one byte or makes at most one read (R9): a step that sends leaves the RX stream; any other leaves the stream, with
the byte of a received row behind it, as it stands or as one RxByte or one RxIdle leaves it. (An arrival and the read that waits for it are
one step: log 12.) -/
def Obligations.OneByteOrOneReadPerStep : Prop :=
  ∀ s t : State, step s = .next t →
    ∃ (sentBytes : List Byte) (arrived : List RxItem),
      sentBytes.length ≤ 1 ∧ t.tx = s.tx ++ sentBytes ∧ (sentBytes ≠ [] → t.rx = s.rx) ∧
      (arrived = [] ∨ ∃ b : Byte, arrived = [.byte b] ∧ s.nextTurn = .word .rx b.toNat) ∧
      (t.rx = s.rx ++ arrived ∨
        (∃ b, rxTakeByte (s.rx ++ arrived) = .byte b t.rx) ∨ rxTakeByte (s.rx ++ arrived) = .fail t.rx ∨
        (∃ reply, rxTakeIdle s.params.idleMax (s.rx ++ arrived) = .reply reply t.rx) ∨
        rxTakeIdle s.params.idleMax (s.rx ++ arrived) = .fail t.rx)

/-- Step count (R137): from REQ to DONE_OK there are 4 + 135 × NBLK XFSM steps, since each XFSM step that does not abort takes one off the
count. -/
def Obligations.XfsmStepsCountDown : Prop :=
  (∀ s : State, s.st = stReq → s.stepsLeft = 4 + 135 * s.nblk) ∧
  (∀ s : State, s.st = stDoneOk → s.stepsLeft = 0) ∧
  (∀ s t : State, s.Inv → s.isBusy = true → s.nextTurn = .xfsm → step s = .next t → t.st ≠ stDoneErr →
    t.stepsLeft + 1 = s.stepsLeft)

/-- A session in which every write succeeds, the go-ahead reply ends in 'C', every block is acknowledged and the EOT reply begins with ACK
takes exactly 4 + 135 × NBLK steps to DONE_OK, sends exactly R137's bytes and emits NBLK PROGRESS events and one DONE (R137). -/
def Obligations.CleanSessionSucceeds : Prop :=
  ∀ (s : State) (go eot : List Byte), s.Inv → s.st = stReq → s.turns = [] → (∀ a ∈ s.txAnswers, a = .ok) →
    go.length ≤ s.params.idleMax → go.getLast? = some 0x43 → eot.length ≤ s.params.idleMax → eot.head? = some 0x06 →
    s.rx = go.map .byte ++ .idle :: (List.replicate s.nblk (.byte 0x06) ++ (eot.map .byte ++ [.idle])) →
    ∃ t, Host.Core.run core (4 + 135 * s.nblk) s = .next t ∧ t.st = stDoneOk ∧ t.res = resSuccess ∧ t.pcnt = s.nblk ∧
      t.tx = s.tx ++ s.fullSession ∧
      t.events = s.events ++ (List.range s.nblk).map (fun j => .progress (j + 1) s.nblk) ++ [.done resSuccess phNa 0]

/-- During a session the image, LEN, NBLK and the parameters do not change (R22, R39, R64), and IDX moves only by PROG's increment, never
back and never by wrapping (R24). -/
def Obligations.SessionConstantsHold : Prop :=
  ∀ s t : State, step s = .next t → t.params = s.params ∧
    (s.isBusy = true → s.nextTurn ≠ .reset →
      t.image = s.image ∧ t.len = s.len ∧ t.nblk = s.nblk ∧ (t.idx = s.idx ∨ (s.st = stProg ∧ t.idx = s.idx + 1)))

/-- The CRC_OP of each XFSM step (R120, R73): CLEAR in HDR_SOH, UPDATE with the byte sent in DATA, HOLD in every other state; an aborting
step holds (R183). -/
def Obligations.CrcOpOfEachState : Prop :=
  ∀ s t : State, s.nextTurn = .xfsm → step s = .next t →
    (t.st = stDoneErr → t.crc = s.crc) ∧
    (t.st ≠ stDoneErr → s.st = stHdrSoh → t.crc = 0x0000) ∧
    (t.st ≠ stDoneErr → s.st = stData → ∃ b, t.tx = s.tx ++ [b] ∧ t.crc = crcUpdate s.crc b) ∧
    (s.st ≠ stHdrSoh → s.st ≠ stData → t.crc = s.crc)

/-- A payload byte's value never changes the path (R79, R127): two states that differ only in image contents, CRC and the TX line, both with
a loaded image, take XFSM's turn alike and differ in no more afterwards. -/
def Obligations.PayloadNeverSteersControl : Prop :=
  ∀ s s' t : State, s.control = s'.control → s.nextTurn = .xfsm → imageLoaded s.image s.len = true →
    imageLoaded s'.image s'.len = true → step s = .next t → ∃ t', step s' = .next t' ∧ t.control = t'.control

/-- In a state that meets the invariants XFSM's turn stops in one way only: in GO, ACK_WAIT or EOT_WAIT, on a read that never returns
(R56, R57, R105). It is never refused, no reserved code is met and no image byte is absent. That the stop is a fault of this name is the
model's (log 5), and so is that XFSM's turn in IDLE, DONE_OK and DONE_ERR, where R120 and R121 give no XFSM step, answers a next state
(log 6). -/
def Obligations.XfsmStopsOnlyOnUnansweredReads : Prop :=
  ∀ s : State, s.Inv → s.nextTurn = .xfsm →
    (∃ t, step s = .next t) ∨
    (step s = .fault .readNeverReturns ∧ (s.st = stGo ∨ s.st = stAckWait ∨ s.st = stEotWait))

/-- A block that is not acknowledged ends the session (R138): the line then holds the menu byte and the frames up to that block, PCNT is one
less than its index, RES and RES_IDX say so. -/
def Obligations.UnacknowledgedBlockEndsSession : Prop :=
  ∀ (base : List Byte) (s : State), s.Inv → s.TxTracks base → s.st = stAckWait → s.nextTurn = .xfsm →
    ((∃ rest, rxTakeByte s.rx = .fail rest) ∨ (∃ b rest, rxTakeByte s.rx = .byte b rest ∧ b ≠ 0x06)) →
    ∃ t, step s = .next t ∧ t.st = stDoneErr ∧
      t.tx = base ++ ([s.params.menuUploadByte] ++ framesUpTo s.image s.len s.idx) ∧
      t.pcnt + 1 = s.idx ∧ t.res = resBlockTransferFailed ∧ t.resPhase = phBlockLoop ∧ t.resIdx = s.idx

/-- An abort before the first block sends no image byte (R139): after GO's abort the session has sent the menu byte alone, after REQ's
nothing. -/
def Obligations.EarlyAbortSendsNoImage : Prop :=
  ∀ (base : List Byte) (s t : State), s.TxTracks base → step s = .next t → t.st = stDoneErr →
    (s.st = stGo → t.tx = base ++ [s.params.menuUploadByte]) ∧ (s.st = stReq → t.tx = base)

/-- Outside a session nothing is sent and no event is emitted; the block leaves IDLE, DONE_OK and DONE_ERR by START or reset only, and until
then every register stays (R121, R134, R135, R185). -/
def Obligations.RestIsLeftByStartOrReset : Prop :=
  ∀ s t : State, s.isBusy = false → step s = .next t →
    t.tx = s.tx ∧ t.events = s.events ∧
    ((s.nextTurn = .reset ∧ t.st = stIdle) ∨
     (∃ L, s.nextTurn = .word .hcmd (4 * L + 1) ∧ t.st = stReq) ∨
     t.registers = s.registers)

/-- Each register is written only by the operations in its row of R20's table (R31): where the step is neither START nor reset, LEN and NBLK
stay, and each other register changes only in the states and at the aborts its row names. CRC has no writer outside XFSM's HDR_SOH and
DATA. -/
def Obligations.RegistersHaveOnlyTheirWriters : Prop :=
  ∀ s t : State, step s = .next t → s.nextTurn ≠ .reset → (∀ L, s.nextTurn ≠ .word .hcmd (4 * L + 1)) →
    t.len = s.len ∧ t.nblk = s.nblk ∧
    (t.st ≠ s.st → s.isBusy = true) ∧
    (t.idx ≠ s.idx → s.st = stProg) ∧
    (t.k ≠ s.k → s.st = stHdrSoh ∨ s.st = stData) ∧
    (t.crc ≠ s.crc → s.st = stHdrSoh ∨ s.st = stData) ∧
    (t.res ≠ s.res → s.st = stEotWait ∨ (s.st ≠ stDoneErr ∧ t.st = stDoneErr)) ∧
    (t.resPhase ≠ s.resPhase ∨ t.resIdx ≠ s.resIdx → s.st ≠ stDoneErr ∧ t.st = stDoneErr) ∧
    (t.pcnt ≠ s.pcnt → s.st = stProg)
end

