-- ==== Sys2Proof/Laws/Memory.lean ====
section
/-! SUPPORT. The image memory: every operation keeps the canonical form, a write is read back and touches no other address
(20_memory R51). -/

namespace Sys2Proof.Machine

theorem Memory.wf_tail {c : Host.Cell} {m : Memory} (h : Memory.wf (c :: m) = true) : Memory.wf m = true := by
  cases m with
  | nil => rfl
  | cons d m => simp [Memory.wf] at h; exact h.2

/-- The first address a memory lists, if any, is above `x`. -/
def Memory.above (x : Nat) (m : Memory) : Prop := ∀ c ∈ m.head?, x < c.1

theorem Memory.wf_cons (c : Host.Cell) (m : Memory) :
    Memory.wf (c :: m) = true ↔ Memory.above c.1 m ∧ Memory.wf m = true := by
  cases m <;> simp [Memory.wf, Memory.above]

theorem Memory.above_write {x a : Nat} {b : Byte} {m : Memory} (hx : x < a) (h : Memory.above x m) :
    Memory.above x (m.write a b) := by
  cases m with
  | nil => simpa [Memory.write, Memory.above] using hx
  | cons c m =>
    simp only [Memory.above, List.head?_cons, Option.mem_some_iff, forall_eq'] at h
    unfold Memory.write
    split
    · simpa [Memory.above] using hx
    · split
      · simpa [Memory.above] using hx
      · simpa [Memory.above] using h

/-- A write keeps the canonical form. -/
theorem Memory.wf_write (m : Memory) (a : Nat) (b : Byte) (h : m.wf = true) : (m.write a b).wf = true := by
  induction m with
  | nil => rfl
  | cons c m ih =>
    obtain ⟨x, v⟩ := c
    have ⟨hm, hw⟩ := (Memory.wf_cons _ _).1 h
    unfold Memory.write
    split
    next hlt => exact (Memory.wf_cons _ _).2 ⟨by simpa [Memory.above] using hlt, h⟩
    next hge =>
      split
      next heq => subst heq; exact (Memory.wf_cons _ _).2 ⟨hm, hw⟩
      next hne => exact (Memory.wf_cons _ _).2 ⟨Memory.above_write (by omega) hm, ih hw⟩

theorem Memory.read_write_same (m : Memory) (a : Nat) (b : Byte) : (m.write a b).read a = some b := by
  induction m with
  | nil => simp [Memory.write, Memory.read]
  | cons c m ih =>
    obtain ⟨x, v⟩ := c
    unfold Memory.write
    split
    · simp [Memory.read]
    · split
      · simp [Memory.read]
      next hne => simpa [Memory.read, Ne.symm hne] using ih

theorem Memory.read_write_other (m : Memory) {a a' : Nat} (b : Byte) (h : a' ≠ a) :
    (m.write a b).read a' = m.read a' := by
  induction m with
  | nil => simp [Memory.write, Memory.read, h.symm]
  | cons c m ih =>
    obtain ⟨x, v⟩ := c
    unfold Memory.write
    split
    · simp [Memory.read, h.symm]
    · split
      next heq => subst heq; simp [Memory.read, h.symm]
      next hne => simp only [Memory.read, ih]

/-- A loaded image holds a byte at every address below L. -/
theorem imageLoaded_iff (m : Memory) (len : Nat) :
    imageLoaded m len = true ↔ ∀ a < len, (m.read a).isSome = true := by
  simp [imageLoaded]

end Sys2Proof.Machine
end

