-- ==== Sys2Proof/Laws/PerInstr.lean ====
section
/-! SUPPORT. A fact stated for each instruction as syntax: its encoding fits the width of its lane's format (30_encoding R70). -/

namespace Sys2Proof.Laws

/-- The words a lane's format has room for; the host's lane carries START's operand, which has no bound of its own (R72). -/
def laneFits : Lane → Nat → Prop
  | .st, w => w < 16
  | .hcmd, _ => True
  | .crcOp, w => w < 1024
  | .tx _, w => w < 256
  | .rx, w => w < 256

/-- The word of the instruction fits its lane. -/
def EncodingFits.Statement (i : Instr) : Prop := laneFits (encode i).1 (encode i).2

theorem EncodingFits.idle : EncodingFits.Statement .idle := (by decide : (encode .idle).2 < _)
theorem EncodingFits.req : EncodingFits.Statement .req := (by decide : (encode .req).2 < _)
theorem EncodingFits.go : EncodingFits.Statement .go := (by decide : (encode .go).2 < _)
theorem EncodingFits.hdrSoh : EncodingFits.Statement .hdrSoh := (by decide : (encode .hdrSoh).2 < _)
theorem EncodingFits.hdrNum : EncodingFits.Statement .hdrNum := (by decide : (encode .hdrNum).2 < _)
theorem EncodingFits.hdrCmp : EncodingFits.Statement .hdrCmp := (by decide : (encode .hdrCmp).2 < _)
theorem EncodingFits.data : EncodingFits.Statement .data := (by decide : (encode .data).2 < _)
theorem EncodingFits.crcHi : EncodingFits.Statement .crcHi := (by decide : (encode .crcHi).2 < _)
theorem EncodingFits.crcLo : EncodingFits.Statement .crcLo := (by decide : (encode .crcLo).2 < _)
theorem EncodingFits.ackWait : EncodingFits.Statement .ackWait := (by decide : (encode .ackWait).2 < _)
theorem EncodingFits.prog : EncodingFits.Statement .prog := (by decide : (encode .prog).2 < _)
theorem EncodingFits.eotTx : EncodingFits.Statement .eotTx := (by decide : (encode .eotTx).2 < _)
theorem EncodingFits.eotWait : EncodingFits.Statement .eotWait := (by decide : (encode .eotWait).2 < _)
theorem EncodingFits.doneOk : EncodingFits.Statement .doneOk := (by decide : (encode .doneOk).2 < _)
theorem EncodingFits.doneErr : EncodingFits.Statement .doneErr := (by decide : (encode .doneErr).2 < _)
theorem EncodingFits.reservedSt : EncodingFits.Statement .reservedSt := (by decide : (encode .reservedSt).2 < _)
theorem EncodingFits.hcmdReserved00 : EncodingFits.Statement .hcmdReserved00 := trivial
theorem EncodingFits.start (len : Nat) : EncodingFits.Statement (.start len) := trivial
theorem EncodingFits.readStatus : EncodingFits.Statement .readStatus := trivial
theorem EncodingFits.hcmdReserved11 : EncodingFits.Statement .hcmdReserved11 := trivial
theorem EncodingFits.crcHold (din : Byte) : EncodingFits.Statement (.crcHold din) := by
  have := din.isLt; simp only [EncodingFits.Statement, encode, laneFits]; omega
theorem EncodingFits.crcClear (din : Byte) : EncodingFits.Statement (.crcClear din) := by
  have := din.isLt; simp only [EncodingFits.Statement, encode, laneFits]; omega
theorem EncodingFits.crcUpdate (din : Byte) : EncodingFits.Statement (.crcUpdate din) := by
  have := din.isLt; simp only [EncodingFits.Statement, encode, laneFits]; omega
theorem EncodingFits.crcReserved11 (din : Byte) : EncodingFits.Statement (.crcReserved11 din) := by
  have := din.isLt; simp only [EncodingFits.Statement, encode, laneFits]; omega
theorem EncodingFits.txMenuUpload (b : Byte) : EncodingFits.Statement (.txMenuUpload b) := b.isLt
theorem EncodingFits.txSoh : EncodingFits.Statement .txSoh := (by decide : (encode .txSoh).2 < _)
theorem EncodingFits.txBlknum (b : Byte) : EncodingFits.Statement (.txBlknum b) := b.isLt
theorem EncodingFits.txBlkcmp (b : Byte) : EncodingFits.Statement (.txBlkcmp b) := b.isLt
theorem EncodingFits.txData (b : Byte) : EncodingFits.Statement (.txData b) := b.isLt
theorem EncodingFits.txCrcHi (b : Byte) : EncodingFits.Statement (.txCrcHi b) := b.isLt
theorem EncodingFits.txCrcLo (b : Byte) : EncodingFits.Statement (.txCrcLo b) := b.isLt
theorem EncodingFits.txEot : EncodingFits.Statement .txEot := (by decide : (encode .txEot).2 < _)
theorem EncodingFits.rxAck : EncodingFits.Statement .rxAck := (by decide : (encode .rxAck).2 < _)
theorem EncodingFits.rxGoC : EncodingFits.Statement .rxGoC := (by decide : (encode .rxGoC).2 < _)
theorem EncodingFits.rxOther (b : Byte) : EncodingFits.Statement (.rxOther b) := b.isLt

end Sys2Proof.Laws
end

