-- ==== Sys2Proof/Laws/State.lean ====
section
/-! SUPPORT. What each named update does to each field of the state: one lemma per field, true by definition. -/

namespace Sys2Proof.Machine

variable (s : State)

@[simp] theorem State.setSt_st (c : StCode) : (s.setSt c).st = c := rfl
@[simp] theorem State.setSt_len (c : StCode) : (s.setSt c).len = s.len := rfl
@[simp] theorem State.setSt_nblk (c : StCode) : (s.setSt c).nblk = s.nblk := rfl
@[simp] theorem State.setSt_idx (c : StCode) : (s.setSt c).idx = s.idx := rfl
@[simp] theorem State.setSt_k (c : StCode) : (s.setSt c).k = s.k := rfl
@[simp] theorem State.setSt_crc (c : StCode) : (s.setSt c).crc = s.crc := rfl
@[simp] theorem State.setSt_res (c : StCode) : (s.setSt c).res = s.res := rfl
@[simp] theorem State.setSt_resPhase (c : StCode) : (s.setSt c).resPhase = s.resPhase := rfl
@[simp] theorem State.setSt_resIdx (c : StCode) : (s.setSt c).resIdx = s.resIdx := rfl
@[simp] theorem State.setSt_pcnt (c : StCode) : (s.setSt c).pcnt = s.pcnt := rfl
@[simp] theorem State.setSt_image (c : StCode) : (s.setSt c).image = s.image := rfl
@[simp] theorem State.setSt_tx (c : StCode) : (s.setSt c).tx = s.tx := rfl
@[simp] theorem State.setSt_events (c : StCode) : (s.setSt c).events = s.events := rfl
@[simp] theorem State.setSt_statusOut (c : StCode) : (s.setSt c).statusOut = s.statusOut := rfl
@[simp] theorem State.setSt_rx (c : StCode) : (s.setSt c).rx = s.rx := rfl
@[simp] theorem State.setSt_txAnswers (c : StCode) : (s.setSt c).txAnswers = s.txAnswers := rfl
@[simp] theorem State.setSt_turns (c : StCode) : (s.setSt c).turns = s.turns := rfl
@[simp] theorem State.setSt_aloneCrc (c : StCode) : (s.setSt c).aloneCrc = s.aloneCrc := rfl
@[simp] theorem State.setSt_params (c : StCode) : (s.setSt c).params = s.params := rfl

@[simp] theorem State.setK_st (k : BitVec 8) : (s.setK k).st = s.st := rfl
@[simp] theorem State.setK_len (k : BitVec 8) : (s.setK k).len = s.len := rfl
@[simp] theorem State.setK_nblk (k : BitVec 8) : (s.setK k).nblk = s.nblk := rfl
@[simp] theorem State.setK_idx (k : BitVec 8) : (s.setK k).idx = s.idx := rfl
@[simp] theorem State.setK_k (k : BitVec 8) : (s.setK k).k = k := rfl
@[simp] theorem State.setK_crc (k : BitVec 8) : (s.setK k).crc = s.crc := rfl
@[simp] theorem State.setK_res (k : BitVec 8) : (s.setK k).res = s.res := rfl
@[simp] theorem State.setK_resPhase (k : BitVec 8) : (s.setK k).resPhase = s.resPhase := rfl
@[simp] theorem State.setK_resIdx (k : BitVec 8) : (s.setK k).resIdx = s.resIdx := rfl
@[simp] theorem State.setK_pcnt (k : BitVec 8) : (s.setK k).pcnt = s.pcnt := rfl
@[simp] theorem State.setK_image (k : BitVec 8) : (s.setK k).image = s.image := rfl
@[simp] theorem State.setK_tx (k : BitVec 8) : (s.setK k).tx = s.tx := rfl
@[simp] theorem State.setK_events (k : BitVec 8) : (s.setK k).events = s.events := rfl
@[simp] theorem State.setK_statusOut (k : BitVec 8) : (s.setK k).statusOut = s.statusOut := rfl
@[simp] theorem State.setK_rx (k : BitVec 8) : (s.setK k).rx = s.rx := rfl
@[simp] theorem State.setK_txAnswers (k : BitVec 8) : (s.setK k).txAnswers = s.txAnswers := rfl
@[simp] theorem State.setK_turns (k : BitVec 8) : (s.setK k).turns = s.turns := rfl
@[simp] theorem State.setK_aloneCrc (k : BitVec 8) : (s.setK k).aloneCrc = s.aloneCrc := rfl
@[simp] theorem State.setK_params (k : BitVec 8) : (s.setK k).params = s.params := rfl

@[simp] theorem State.setCrc_st (c : Remainder) : (s.setCrc c).st = s.st := rfl
@[simp] theorem State.setCrc_len (c : Remainder) : (s.setCrc c).len = s.len := rfl
@[simp] theorem State.setCrc_nblk (c : Remainder) : (s.setCrc c).nblk = s.nblk := rfl
@[simp] theorem State.setCrc_idx (c : Remainder) : (s.setCrc c).idx = s.idx := rfl
@[simp] theorem State.setCrc_k (c : Remainder) : (s.setCrc c).k = s.k := rfl
@[simp] theorem State.setCrc_crc (c : Remainder) : (s.setCrc c).crc = c := rfl
@[simp] theorem State.setCrc_res (c : Remainder) : (s.setCrc c).res = s.res := rfl
@[simp] theorem State.setCrc_resPhase (c : Remainder) : (s.setCrc c).resPhase = s.resPhase := rfl
@[simp] theorem State.setCrc_resIdx (c : Remainder) : (s.setCrc c).resIdx = s.resIdx := rfl
@[simp] theorem State.setCrc_pcnt (c : Remainder) : (s.setCrc c).pcnt = s.pcnt := rfl
@[simp] theorem State.setCrc_image (c : Remainder) : (s.setCrc c).image = s.image := rfl
@[simp] theorem State.setCrc_tx (c : Remainder) : (s.setCrc c).tx = s.tx := rfl
@[simp] theorem State.setCrc_events (c : Remainder) : (s.setCrc c).events = s.events := rfl
@[simp] theorem State.setCrc_statusOut (c : Remainder) : (s.setCrc c).statusOut = s.statusOut := rfl
@[simp] theorem State.setCrc_rx (c : Remainder) : (s.setCrc c).rx = s.rx := rfl
@[simp] theorem State.setCrc_txAnswers (c : Remainder) : (s.setCrc c).txAnswers = s.txAnswers := rfl
@[simp] theorem State.setCrc_turns (c : Remainder) : (s.setCrc c).turns = s.turns := rfl
@[simp] theorem State.setCrc_aloneCrc (c : Remainder) : (s.setCrc c).aloneCrc = s.aloneCrc := rfl
@[simp] theorem State.setCrc_params (c : Remainder) : (s.setCrc c).params = s.params := rfl

@[simp] theorem State.setAloneCrc_st (c : Remainder) : (s.setAloneCrc c).st = s.st := rfl
@[simp] theorem State.setAloneCrc_len (c : Remainder) : (s.setAloneCrc c).len = s.len := rfl
@[simp] theorem State.setAloneCrc_nblk (c : Remainder) : (s.setAloneCrc c).nblk = s.nblk := rfl
@[simp] theorem State.setAloneCrc_idx (c : Remainder) : (s.setAloneCrc c).idx = s.idx := rfl
@[simp] theorem State.setAloneCrc_k (c : Remainder) : (s.setAloneCrc c).k = s.k := rfl
@[simp] theorem State.setAloneCrc_crc (c : Remainder) : (s.setAloneCrc c).crc = s.crc := rfl
@[simp] theorem State.setAloneCrc_res (c : Remainder) : (s.setAloneCrc c).res = s.res := rfl
@[simp] theorem State.setAloneCrc_resPhase (c : Remainder) : (s.setAloneCrc c).resPhase = s.resPhase := rfl
@[simp] theorem State.setAloneCrc_resIdx (c : Remainder) : (s.setAloneCrc c).resIdx = s.resIdx := rfl
@[simp] theorem State.setAloneCrc_pcnt (c : Remainder) : (s.setAloneCrc c).pcnt = s.pcnt := rfl
@[simp] theorem State.setAloneCrc_image (c : Remainder) : (s.setAloneCrc c).image = s.image := rfl
@[simp] theorem State.setAloneCrc_tx (c : Remainder) : (s.setAloneCrc c).tx = s.tx := rfl
@[simp] theorem State.setAloneCrc_events (c : Remainder) : (s.setAloneCrc c).events = s.events := rfl
@[simp] theorem State.setAloneCrc_statusOut (c : Remainder) : (s.setAloneCrc c).statusOut = s.statusOut := rfl
@[simp] theorem State.setAloneCrc_rx (c : Remainder) : (s.setAloneCrc c).rx = s.rx := rfl
@[simp] theorem State.setAloneCrc_txAnswers (c : Remainder) : (s.setAloneCrc c).txAnswers = s.txAnswers := rfl
@[simp] theorem State.setAloneCrc_turns (c : Remainder) : (s.setAloneCrc c).turns = s.turns := rfl
@[simp] theorem State.setAloneCrc_aloneCrc (c : Remainder) : (s.setAloneCrc c).aloneCrc = c := rfl
@[simp] theorem State.setAloneCrc_params (c : Remainder) : (s.setAloneCrc c).params = s.params := rfl

@[simp] theorem State.setRes_st (r : ResCode) : (s.setRes r).st = s.st := rfl
@[simp] theorem State.setRes_len (r : ResCode) : (s.setRes r).len = s.len := rfl
@[simp] theorem State.setRes_nblk (r : ResCode) : (s.setRes r).nblk = s.nblk := rfl
@[simp] theorem State.setRes_idx (r : ResCode) : (s.setRes r).idx = s.idx := rfl
@[simp] theorem State.setRes_k (r : ResCode) : (s.setRes r).k = s.k := rfl
@[simp] theorem State.setRes_crc (r : ResCode) : (s.setRes r).crc = s.crc := rfl
@[simp] theorem State.setRes_res (r : ResCode) : (s.setRes r).res = r := rfl
@[simp] theorem State.setRes_resPhase (r : ResCode) : (s.setRes r).resPhase = s.resPhase := rfl
@[simp] theorem State.setRes_resIdx (r : ResCode) : (s.setRes r).resIdx = s.resIdx := rfl
@[simp] theorem State.setRes_pcnt (r : ResCode) : (s.setRes r).pcnt = s.pcnt := rfl
@[simp] theorem State.setRes_image (r : ResCode) : (s.setRes r).image = s.image := rfl
@[simp] theorem State.setRes_tx (r : ResCode) : (s.setRes r).tx = s.tx := rfl
@[simp] theorem State.setRes_events (r : ResCode) : (s.setRes r).events = s.events := rfl
@[simp] theorem State.setRes_statusOut (r : ResCode) : (s.setRes r).statusOut = s.statusOut := rfl
@[simp] theorem State.setRes_rx (r : ResCode) : (s.setRes r).rx = s.rx := rfl
@[simp] theorem State.setRes_txAnswers (r : ResCode) : (s.setRes r).txAnswers = s.txAnswers := rfl
@[simp] theorem State.setRes_turns (r : ResCode) : (s.setRes r).turns = s.turns := rfl
@[simp] theorem State.setRes_aloneCrc (r : ResCode) : (s.setRes r).aloneCrc = s.aloneCrc := rfl
@[simp] theorem State.setRes_params (r : ResCode) : (s.setRes r).params = s.params := rfl

@[simp] theorem State.setIdx_st (i : Nat) : (s.setIdx i).st = s.st := rfl
@[simp] theorem State.setIdx_len (i : Nat) : (s.setIdx i).len = s.len := rfl
@[simp] theorem State.setIdx_nblk (i : Nat) : (s.setIdx i).nblk = s.nblk := rfl
@[simp] theorem State.setIdx_idx (i : Nat) : (s.setIdx i).idx = i := rfl
@[simp] theorem State.setIdx_k (i : Nat) : (s.setIdx i).k = s.k := rfl
@[simp] theorem State.setIdx_crc (i : Nat) : (s.setIdx i).crc = s.crc := rfl
@[simp] theorem State.setIdx_res (i : Nat) : (s.setIdx i).res = s.res := rfl
@[simp] theorem State.setIdx_resPhase (i : Nat) : (s.setIdx i).resPhase = s.resPhase := rfl
@[simp] theorem State.setIdx_resIdx (i : Nat) : (s.setIdx i).resIdx = s.resIdx := rfl
@[simp] theorem State.setIdx_pcnt (i : Nat) : (s.setIdx i).pcnt = s.pcnt := rfl
@[simp] theorem State.setIdx_image (i : Nat) : (s.setIdx i).image = s.image := rfl
@[simp] theorem State.setIdx_tx (i : Nat) : (s.setIdx i).tx = s.tx := rfl
@[simp] theorem State.setIdx_events (i : Nat) : (s.setIdx i).events = s.events := rfl
@[simp] theorem State.setIdx_statusOut (i : Nat) : (s.setIdx i).statusOut = s.statusOut := rfl
@[simp] theorem State.setIdx_rx (i : Nat) : (s.setIdx i).rx = s.rx := rfl
@[simp] theorem State.setIdx_txAnswers (i : Nat) : (s.setIdx i).txAnswers = s.txAnswers := rfl
@[simp] theorem State.setIdx_turns (i : Nat) : (s.setIdx i).turns = s.turns := rfl
@[simp] theorem State.setIdx_aloneCrc (i : Nat) : (s.setIdx i).aloneCrc = s.aloneCrc := rfl
@[simp] theorem State.setIdx_params (i : Nat) : (s.setIdx i).params = s.params := rfl

@[simp] theorem State.setPcnt_st (n : Nat) : (s.setPcnt n).st = s.st := rfl
@[simp] theorem State.setPcnt_len (n : Nat) : (s.setPcnt n).len = s.len := rfl
@[simp] theorem State.setPcnt_nblk (n : Nat) : (s.setPcnt n).nblk = s.nblk := rfl
@[simp] theorem State.setPcnt_idx (n : Nat) : (s.setPcnt n).idx = s.idx := rfl
@[simp] theorem State.setPcnt_k (n : Nat) : (s.setPcnt n).k = s.k := rfl
@[simp] theorem State.setPcnt_crc (n : Nat) : (s.setPcnt n).crc = s.crc := rfl
@[simp] theorem State.setPcnt_res (n : Nat) : (s.setPcnt n).res = s.res := rfl
@[simp] theorem State.setPcnt_resPhase (n : Nat) : (s.setPcnt n).resPhase = s.resPhase := rfl
@[simp] theorem State.setPcnt_resIdx (n : Nat) : (s.setPcnt n).resIdx = s.resIdx := rfl
@[simp] theorem State.setPcnt_pcnt (n : Nat) : (s.setPcnt n).pcnt = n := rfl
@[simp] theorem State.setPcnt_image (n : Nat) : (s.setPcnt n).image = s.image := rfl
@[simp] theorem State.setPcnt_tx (n : Nat) : (s.setPcnt n).tx = s.tx := rfl
@[simp] theorem State.setPcnt_events (n : Nat) : (s.setPcnt n).events = s.events := rfl
@[simp] theorem State.setPcnt_statusOut (n : Nat) : (s.setPcnt n).statusOut = s.statusOut := rfl
@[simp] theorem State.setPcnt_rx (n : Nat) : (s.setPcnt n).rx = s.rx := rfl
@[simp] theorem State.setPcnt_txAnswers (n : Nat) : (s.setPcnt n).txAnswers = s.txAnswers := rfl
@[simp] theorem State.setPcnt_turns (n : Nat) : (s.setPcnt n).turns = s.turns := rfl
@[simp] theorem State.setPcnt_aloneCrc (n : Nat) : (s.setPcnt n).aloneCrc = s.aloneCrc := rfl
@[simp] theorem State.setPcnt_params (n : Nat) : (s.setPcnt n).params = s.params := rfl

@[simp] theorem State.setRx_st (q : List RxItem) : (s.setRx q).st = s.st := rfl
@[simp] theorem State.setRx_len (q : List RxItem) : (s.setRx q).len = s.len := rfl
@[simp] theorem State.setRx_nblk (q : List RxItem) : (s.setRx q).nblk = s.nblk := rfl
@[simp] theorem State.setRx_idx (q : List RxItem) : (s.setRx q).idx = s.idx := rfl
@[simp] theorem State.setRx_k (q : List RxItem) : (s.setRx q).k = s.k := rfl
@[simp] theorem State.setRx_crc (q : List RxItem) : (s.setRx q).crc = s.crc := rfl
@[simp] theorem State.setRx_res (q : List RxItem) : (s.setRx q).res = s.res := rfl
@[simp] theorem State.setRx_resPhase (q : List RxItem) : (s.setRx q).resPhase = s.resPhase := rfl
@[simp] theorem State.setRx_resIdx (q : List RxItem) : (s.setRx q).resIdx = s.resIdx := rfl
@[simp] theorem State.setRx_pcnt (q : List RxItem) : (s.setRx q).pcnt = s.pcnt := rfl
@[simp] theorem State.setRx_image (q : List RxItem) : (s.setRx q).image = s.image := rfl
@[simp] theorem State.setRx_tx (q : List RxItem) : (s.setRx q).tx = s.tx := rfl
@[simp] theorem State.setRx_events (q : List RxItem) : (s.setRx q).events = s.events := rfl
@[simp] theorem State.setRx_statusOut (q : List RxItem) : (s.setRx q).statusOut = s.statusOut := rfl
@[simp] theorem State.setRx_rx (q : List RxItem) : (s.setRx q).rx = q := rfl
@[simp] theorem State.setRx_txAnswers (q : List RxItem) : (s.setRx q).txAnswers = s.txAnswers := rfl
@[simp] theorem State.setRx_turns (q : List RxItem) : (s.setRx q).turns = s.turns := rfl
@[simp] theorem State.setRx_aloneCrc (q : List RxItem) : (s.setRx q).aloneCrc = s.aloneCrc := rfl
@[simp] theorem State.setRx_params (q : List RxItem) : (s.setRx q).params = s.params := rfl

@[simp] theorem State.emit_st (e : Event) : (s.emit e).st = s.st := rfl
@[simp] theorem State.emit_len (e : Event) : (s.emit e).len = s.len := rfl
@[simp] theorem State.emit_nblk (e : Event) : (s.emit e).nblk = s.nblk := rfl
@[simp] theorem State.emit_idx (e : Event) : (s.emit e).idx = s.idx := rfl
@[simp] theorem State.emit_k (e : Event) : (s.emit e).k = s.k := rfl
@[simp] theorem State.emit_crc (e : Event) : (s.emit e).crc = s.crc := rfl
@[simp] theorem State.emit_res (e : Event) : (s.emit e).res = s.res := rfl
@[simp] theorem State.emit_resPhase (e : Event) : (s.emit e).resPhase = s.resPhase := rfl
@[simp] theorem State.emit_resIdx (e : Event) : (s.emit e).resIdx = s.resIdx := rfl
@[simp] theorem State.emit_pcnt (e : Event) : (s.emit e).pcnt = s.pcnt := rfl
@[simp] theorem State.emit_image (e : Event) : (s.emit e).image = s.image := rfl
@[simp] theorem State.emit_tx (e : Event) : (s.emit e).tx = s.tx := rfl
@[simp] theorem State.emit_events (e : Event) : (s.emit e).events = s.events ++ [e] := rfl
@[simp] theorem State.emit_statusOut (e : Event) : (s.emit e).statusOut = s.statusOut := rfl
@[simp] theorem State.emit_rx (e : Event) : (s.emit e).rx = s.rx := rfl
@[simp] theorem State.emit_txAnswers (e : Event) : (s.emit e).txAnswers = s.txAnswers := rfl
@[simp] theorem State.emit_turns (e : Event) : (s.emit e).turns = s.turns := rfl
@[simp] theorem State.emit_aloneCrc (e : Event) : (s.emit e).aloneCrc = s.aloneCrc := rfl
@[simp] theorem State.emit_params (e : Event) : (s.emit e).params = s.params := rfl

@[simp] theorem State.report_st (r : Status) : (s.report r).st = s.st := rfl
@[simp] theorem State.report_len (r : Status) : (s.report r).len = s.len := rfl
@[simp] theorem State.report_nblk (r : Status) : (s.report r).nblk = s.nblk := rfl
@[simp] theorem State.report_idx (r : Status) : (s.report r).idx = s.idx := rfl
@[simp] theorem State.report_k (r : Status) : (s.report r).k = s.k := rfl
@[simp] theorem State.report_crc (r : Status) : (s.report r).crc = s.crc := rfl
@[simp] theorem State.report_res (r : Status) : (s.report r).res = s.res := rfl
@[simp] theorem State.report_resPhase (r : Status) : (s.report r).resPhase = s.resPhase := rfl
@[simp] theorem State.report_resIdx (r : Status) : (s.report r).resIdx = s.resIdx := rfl
@[simp] theorem State.report_pcnt (r : Status) : (s.report r).pcnt = s.pcnt := rfl
@[simp] theorem State.report_image (r : Status) : (s.report r).image = s.image := rfl
@[simp] theorem State.report_tx (r : Status) : (s.report r).tx = s.tx := rfl
@[simp] theorem State.report_events (r : Status) : (s.report r).events = s.events := rfl
@[simp] theorem State.report_statusOut (r : Status) : (s.report r).statusOut = s.statusOut ++ [r] := rfl
@[simp] theorem State.report_rx (r : Status) : (s.report r).rx = s.rx := rfl
@[simp] theorem State.report_txAnswers (r : Status) : (s.report r).txAnswers = s.txAnswers := rfl
@[simp] theorem State.report_turns (r : Status) : (s.report r).turns = s.turns := rfl
@[simp] theorem State.report_aloneCrc (r : Status) : (s.report r).aloneCrc = s.aloneCrc := rfl
@[simp] theorem State.report_params (r : Status) : (s.report r).params = s.params := rfl

@[simp] theorem State.abort_st (r : ResCode) (p : PhaseCode) (i : Nat) : (s.abort r p i).st = stDoneErr := rfl
@[simp] theorem State.abort_len (r : ResCode) (p : PhaseCode) (i : Nat) : (s.abort r p i).len = s.len := rfl
@[simp] theorem State.abort_nblk (r : ResCode) (p : PhaseCode) (i : Nat) : (s.abort r p i).nblk = s.nblk := rfl
@[simp] theorem State.abort_idx (r : ResCode) (p : PhaseCode) (i : Nat) : (s.abort r p i).idx = s.idx := rfl
@[simp] theorem State.abort_k (r : ResCode) (p : PhaseCode) (i : Nat) : (s.abort r p i).k = s.k := rfl
@[simp] theorem State.abort_crc (r : ResCode) (p : PhaseCode) (i : Nat) : (s.abort r p i).crc = s.crc := rfl
@[simp] theorem State.abort_res (r : ResCode) (p : PhaseCode) (i : Nat) : (s.abort r p i).res = r := rfl
@[simp] theorem State.abort_resPhase (r : ResCode) (p : PhaseCode) (i : Nat) : (s.abort r p i).resPhase = p := rfl
@[simp] theorem State.abort_resIdx (r : ResCode) (p : PhaseCode) (i : Nat) : (s.abort r p i).resIdx = i := rfl
@[simp] theorem State.abort_pcnt (r : ResCode) (p : PhaseCode) (i : Nat) : (s.abort r p i).pcnt = s.pcnt := rfl
@[simp] theorem State.abort_image (r : ResCode) (p : PhaseCode) (i : Nat) : (s.abort r p i).image = s.image := rfl
@[simp] theorem State.abort_tx (r : ResCode) (p : PhaseCode) (i : Nat) : (s.abort r p i).tx = s.tx := rfl
@[simp] theorem State.abort_events (r : ResCode) (p : PhaseCode) (i : Nat) : (s.abort r p i).events = s.events ++ [.done r p i] := rfl
@[simp] theorem State.abort_statusOut (r : ResCode) (p : PhaseCode) (i : Nat) : (s.abort r p i).statusOut = s.statusOut := rfl
@[simp] theorem State.abort_rx (r : ResCode) (p : PhaseCode) (i : Nat) : (s.abort r p i).rx = s.rx := rfl
@[simp] theorem State.abort_txAnswers (r : ResCode) (p : PhaseCode) (i : Nat) : (s.abort r p i).txAnswers = s.txAnswers := rfl
@[simp] theorem State.abort_turns (r : ResCode) (p : PhaseCode) (i : Nat) : (s.abort r p i).turns = s.turns := rfl
@[simp] theorem State.abort_aloneCrc (r : ResCode) (p : PhaseCode) (i : Nat) : (s.abort r p i).aloneCrc = s.aloneCrc := rfl
@[simp] theorem State.abort_params (r : ResCode) (p : PhaseCode) (i : Nat) : (s.abort r p i).params = s.params := rfl

@[simp] theorem State.resetRegs_st : (s.resetRegs).st = stIdle := rfl
@[simp] theorem State.resetRegs_len : (s.resetRegs).len = 0 := rfl
@[simp] theorem State.resetRegs_nblk : (s.resetRegs).nblk = 0 := rfl
@[simp] theorem State.resetRegs_idx : (s.resetRegs).idx = 0 := rfl
@[simp] theorem State.resetRegs_k : (s.resetRegs).k = 0 := rfl
@[simp] theorem State.resetRegs_crc : (s.resetRegs).crc = 0 := rfl
@[simp] theorem State.resetRegs_res : (s.resetRegs).res = resNone := rfl
@[simp] theorem State.resetRegs_resPhase : (s.resetRegs).resPhase = phNa := rfl
@[simp] theorem State.resetRegs_resIdx : (s.resetRegs).resIdx = 0 := rfl
@[simp] theorem State.resetRegs_pcnt : (s.resetRegs).pcnt = 0 := rfl
@[simp] theorem State.resetRegs_image : (s.resetRegs).image = s.image := rfl
@[simp] theorem State.resetRegs_tx : (s.resetRegs).tx = s.tx := rfl
@[simp] theorem State.resetRegs_events : (s.resetRegs).events = s.events := rfl
@[simp] theorem State.resetRegs_statusOut : (s.resetRegs).statusOut = s.statusOut := rfl
@[simp] theorem State.resetRegs_rx : (s.resetRegs).rx = s.rx := rfl
@[simp] theorem State.resetRegs_txAnswers : (s.resetRegs).txAnswers = s.txAnswers := rfl
@[simp] theorem State.resetRegs_turns : (s.resetRegs).turns = s.turns := rfl
@[simp] theorem State.resetRegs_aloneCrc : (s.resetRegs).aloneCrc = s.aloneCrc := rfl
@[simp] theorem State.resetRegs_params : (s.resetRegs).params = s.params := rfl

@[simp] theorem State.dropTurn_st : (s.dropTurn).st = s.st := rfl
@[simp] theorem State.dropTurn_len : (s.dropTurn).len = s.len := rfl
@[simp] theorem State.dropTurn_nblk : (s.dropTurn).nblk = s.nblk := rfl
@[simp] theorem State.dropTurn_idx : (s.dropTurn).idx = s.idx := rfl
@[simp] theorem State.dropTurn_k : (s.dropTurn).k = s.k := rfl
@[simp] theorem State.dropTurn_crc : (s.dropTurn).crc = s.crc := rfl
@[simp] theorem State.dropTurn_res : (s.dropTurn).res = s.res := rfl
@[simp] theorem State.dropTurn_resPhase : (s.dropTurn).resPhase = s.resPhase := rfl
@[simp] theorem State.dropTurn_resIdx : (s.dropTurn).resIdx = s.resIdx := rfl
@[simp] theorem State.dropTurn_pcnt : (s.dropTurn).pcnt = s.pcnt := rfl
@[simp] theorem State.dropTurn_image : (s.dropTurn).image = s.image := rfl
@[simp] theorem State.dropTurn_tx : (s.dropTurn).tx = s.tx := rfl
@[simp] theorem State.dropTurn_events : (s.dropTurn).events = s.events := rfl
@[simp] theorem State.dropTurn_statusOut : (s.dropTurn).statusOut = s.statusOut := rfl
@[simp] theorem State.dropTurn_rx : (s.dropTurn).rx = s.rx := rfl
@[simp] theorem State.dropTurn_txAnswers : (s.dropTurn).txAnswers = s.txAnswers := rfl
@[simp] theorem State.dropTurn_turns : (s.dropTurn).turns = s.turns.tail := rfl
@[simp] theorem State.dropTurn_aloneCrc : (s.dropTurn).aloneCrc = s.aloneCrc := rfl
@[simp] theorem State.dropTurn_params : (s.dropTurn).params = s.params := rfl

@[simp] theorem State.startSession_st (n : Nat) : (s.startSession n).st = stReq := rfl
@[simp] theorem State.startSession_len (n : Nat) : (s.startSession n).len = n := rfl
@[simp] theorem State.startSession_nblk (n : Nat) : (s.startSession n).nblk = blocksOf n := rfl
@[simp] theorem State.startSession_idx (n : Nat) : (s.startSession n).idx = 1 := rfl
@[simp] theorem State.startSession_k (n : Nat) : (s.startSession n).k = 0 := rfl
@[simp] theorem State.startSession_crc (n : Nat) : (s.startSession n).crc = crcInit := rfl
@[simp] theorem State.startSession_res (n : Nat) : (s.startSession n).res = resBusy := rfl
@[simp] theorem State.startSession_resPhase (n : Nat) : (s.startSession n).resPhase = phNa := rfl
@[simp] theorem State.startSession_resIdx (n : Nat) : (s.startSession n).resIdx = 0 := rfl
@[simp] theorem State.startSession_pcnt (n : Nat) : (s.startSession n).pcnt = 0 := rfl
@[simp] theorem State.startSession_image (n : Nat) : (s.startSession n).image = s.image := rfl
@[simp] theorem State.startSession_tx (n : Nat) : (s.startSession n).tx = s.tx := rfl
@[simp] theorem State.startSession_events (n : Nat) : (s.startSession n).events = s.events := rfl
@[simp] theorem State.startSession_statusOut (n : Nat) : (s.startSession n).statusOut = s.statusOut := rfl
@[simp] theorem State.startSession_rx (n : Nat) : (s.startSession n).rx = s.rx := rfl
@[simp] theorem State.startSession_txAnswers (n : Nat) : (s.startSession n).txAnswers = s.txAnswers := rfl
@[simp] theorem State.startSession_turns (n : Nat) : (s.startSession n).turns = s.turns := rfl
@[simp] theorem State.startSession_aloneCrc (n : Nat) : (s.startSession n).aloneCrc = s.aloneCrc := rfl
@[simp] theorem State.startSession_params (n : Nat) : (s.startSession n).params = s.params := rfl

@[simp] theorem State.foldData_st (b : Byte) : (s.foldData b).st = if s.k.toNat + 1 = blockSize then stCrcHi else stData := rfl
@[simp] theorem State.foldData_len (b : Byte) : (s.foldData b).len = s.len := rfl
@[simp] theorem State.foldData_nblk (b : Byte) : (s.foldData b).nblk = s.nblk := rfl
@[simp] theorem State.foldData_idx (b : Byte) : (s.foldData b).idx = s.idx := rfl
@[simp] theorem State.foldData_k (b : Byte) : (s.foldData b).k = BitVec.ofNat 8 (s.k.toNat + 1) := rfl
@[simp] theorem State.foldData_crc (b : Byte) : (s.foldData b).crc = crcUpdate s.crc b := rfl
@[simp] theorem State.foldData_res (b : Byte) : (s.foldData b).res = s.res := rfl
@[simp] theorem State.foldData_resPhase (b : Byte) : (s.foldData b).resPhase = s.resPhase := rfl
@[simp] theorem State.foldData_resIdx (b : Byte) : (s.foldData b).resIdx = s.resIdx := rfl
@[simp] theorem State.foldData_pcnt (b : Byte) : (s.foldData b).pcnt = s.pcnt := rfl
@[simp] theorem State.foldData_image (b : Byte) : (s.foldData b).image = s.image := rfl
@[simp] theorem State.foldData_tx (b : Byte) : (s.foldData b).tx = s.tx := rfl
@[simp] theorem State.foldData_events (b : Byte) : (s.foldData b).events = s.events := rfl
@[simp] theorem State.foldData_statusOut (b : Byte) : (s.foldData b).statusOut = s.statusOut := rfl
@[simp] theorem State.foldData_rx (b : Byte) : (s.foldData b).rx = s.rx := rfl
@[simp] theorem State.foldData_txAnswers (b : Byte) : (s.foldData b).txAnswers = s.txAnswers := rfl
@[simp] theorem State.foldData_turns (b : Byte) : (s.foldData b).turns = s.turns := rfl
@[simp] theorem State.foldData_aloneCrc (b : Byte) : (s.foldData b).aloneCrc = s.aloneCrc := rfl
@[simp] theorem State.foldData_params (b : Byte) : (s.foldData b).params = s.params := rfl

@[simp] theorem State.txByte_st (b : Byte) : (s.txByte b).st = s.st := by
  unfold State.txByte; split <;> rfl
@[simp] theorem State.txByte_len (b : Byte) : (s.txByte b).len = s.len := by
  unfold State.txByte; split <;> rfl
@[simp] theorem State.txByte_nblk (b : Byte) : (s.txByte b).nblk = s.nblk := by
  unfold State.txByte; split <;> rfl
@[simp] theorem State.txByte_idx (b : Byte) : (s.txByte b).idx = s.idx := by
  unfold State.txByte; split <;> rfl
@[simp] theorem State.txByte_k (b : Byte) : (s.txByte b).k = s.k := by
  unfold State.txByte; split <;> rfl
@[simp] theorem State.txByte_crc (b : Byte) : (s.txByte b).crc = s.crc := by
  unfold State.txByte; split <;> rfl
@[simp] theorem State.txByte_res (b : Byte) : (s.txByte b).res = s.res := by
  unfold State.txByte; split <;> rfl
@[simp] theorem State.txByte_resPhase (b : Byte) : (s.txByte b).resPhase = s.resPhase := by
  unfold State.txByte; split <;> rfl
@[simp] theorem State.txByte_resIdx (b : Byte) : (s.txByte b).resIdx = s.resIdx := by
  unfold State.txByte; split <;> rfl
@[simp] theorem State.txByte_pcnt (b : Byte) : (s.txByte b).pcnt = s.pcnt := by
  unfold State.txByte; split <;> rfl
@[simp] theorem State.txByte_image (b : Byte) : (s.txByte b).image = s.image := by
  unfold State.txByte; split <;> rfl
@[simp] theorem State.txByte_events (b : Byte) : (s.txByte b).events = s.events := by
  unfold State.txByte; split <;> rfl
@[simp] theorem State.txByte_statusOut (b : Byte) : (s.txByte b).statusOut = s.statusOut := by
  unfold State.txByte; split <;> rfl
@[simp] theorem State.txByte_rx (b : Byte) : (s.txByte b).rx = s.rx := by
  unfold State.txByte; split <;> rfl
@[simp] theorem State.txByte_turns (b : Byte) : (s.txByte b).turns = s.turns := by
  unfold State.txByte; split <;> rfl
@[simp] theorem State.txByte_aloneCrc (b : Byte) : (s.txByte b).aloneCrc = s.aloneCrc := by
  unfold State.txByte; split <;> rfl
@[simp] theorem State.txByte_params (b : Byte) : (s.txByte b).params = s.params := by
  unfold State.txByte; split <;> rfl
@[simp] theorem State.txByte_txAnswers (b : Byte) : (s.txByte b).txAnswers = s.txAnswers.tail := by
  unfold State.txByte; split <;> rfl

end Sys2Proof.Machine
end

