-- ==== Sys2Proof/Laws/Ports.lean ====
section
/-! SUPPORT. Once for each port operation, everything it can do (20_memory R55 to R57). -/

namespace Sys2Proof.Machine

theorem TxAnswer.ok_or_fail (a : TxAnswer) : a = .ok ∨ a = .fail := by cases a <;> simp

/-- `TxByte` on ok (R55). -/
theorem State.txByte_of_ok {s : State} (h : s.txAnswer = .ok) (b : Byte) :
    s.txByte b = { s with tx := s.tx ++ [b], txAnswers := s.txAnswers.tail } := by
  simp [State.txByte, h]

/-- `TxByte` on fail (R55). -/
theorem State.txByte_of_fail {s : State} (h : s.txAnswer = .fail) (b : Byte) :
    s.txByte b = { s with txAnswers := s.txAnswers.tail } := by
  simp [State.txByte, h]

/-- Everything a sending step can do: the byte on the line and the step's own writes, or the abort alone. -/
theorem State.sendByte_cases (s : State) (b : Byte) (r : ResCode) (p : PhaseCode) (i : Nat) (f : State → State) :
    (s.txAnswer = .ok ∧
      s.sendByte b r p i f = f { s with tx := s.tx ++ [b], txAnswers := s.txAnswers.tail }) ∨
    (s.txAnswer = .fail ∧
      s.sendByte b r p i f = ({ s with txAnswers := s.txAnswers.tail } : State).abort r p i) := by
  rcases s.txAnswer.ok_or_fail with h | h
  · exact .inl ⟨h, by simp [State.sendByte, h, State.txByte_of_ok h]⟩
  · exact .inr ⟨h, by simp [State.sendByte, h, State.txByte_of_fail h]⟩

theorem State.sendByte_of_ok {s : State} (h : s.txAnswer = .ok) (b : Byte) (r : ResCode) (p : PhaseCode) (i : Nat)
    (f : State → State) :
    s.sendByte b r p i f = f { s with tx := s.tx ++ [b], txAnswers := s.txAnswers.tail } := by
  simp [State.sendByte, h, State.txByte_of_ok h]

theorem State.sendByte_of_fail {s : State} (h : s.txAnswer = .fail) (b : Byte) (r : ResCode) (p : PhaseCode) (i : Nat)
    (f : State → State) :
    s.sendByte b r p i f = ({ s with txAnswers := s.txAnswers.tail } : State).abort r p i := by
  simp [State.sendByte, h, State.txByte_of_fail h]

/-- Everything GO can do (R123). -/
theorem State.readGo_cases {s t : State} (h : s.readGo = .next t) :
    (∃ q, t = (s.setRx q).abort resIoError phAwaitGoAhead 0) ∨
    (∃ q, t = (s.setRx q).abort resNoGoAhead phAwaitGoAhead 0) ∨
    (∃ q, t = (s.setRx q).abort resUnexpectedTransferType phAwaitGoAhead 0) ∨
    (∃ q, t = (s.setRx q).setSt stHdrSoh) := by
  unfold State.readGo at h
  split at h
  · cases h
  · cases h; exact .inl ⟨_, rfl⟩
  · cases h
    unfold State.classifyGo
    split
    · exact .inr (.inl ⟨_, rfl⟩)
    · split
      · exact .inr (.inr (.inr ⟨_, rfl⟩))
      · exact .inr (.inr (.inl ⟨_, rfl⟩))

/-- Everything ACK_WAIT can do (R130). -/
theorem State.readAck_cases {s t : State} (h : s.readAck = .next t) :
    (∃ q, t = (s.setRx q).abort resBlockTransferFailed phBlockLoop s.idx) ∨ (∃ q, t = (s.setRx q).setSt stProg) := by
  unfold State.readAck at h
  split at h
  · cases h
  · cases h; exact .inl ⟨_, rfl⟩
  · cases h
    split
    · exact .inr ⟨_, rfl⟩
    · exact .inl ⟨_, rfl⟩

/-- Everything EOT_WAIT can do (R133). -/
theorem State.readEot_cases {s t : State} (h : s.readEot = .next t) :
    (∃ q, t = (s.setRx q).abort resIoError phEndOfTransmission 0) ∨
    (∃ q, t = (s.setRx q).abort resTransferNotConfirmed phEndOfTransmission 0) ∨
    (∃ q, t = (s.setRx q).succeed) := by
  unfold State.readEot at h
  split at h
  · cases h
  · cases h; exact .inl ⟨_, rfl⟩
  · cases h
    unfold State.classifyEot
    split
    · exact .inr (.inr ⟨_, rfl⟩)
    · exact .inr (.inl ⟨_, rfl⟩)

end Sys2Proof.Machine
end

