-- ==== Sys2Proof/Laws/Step.lean ====
section
/-! SUPPORT. Said once: everything a step can do (`step_moves`). Invariants are case analyses of `Move`. -/

namespace Sys2Proof.Machine

/-- What a turn can do to a state, its turn already taken off the list. -/
inductive Move (s : State) : State → Prop where
  | rest (h : s.isBusy = false) : Move s s
  | report : Move s (s.report s.statusTuple)
  | imageWrite (a : Nat) (b : Byte) (h : s.isBusy = false) : Move s { s with image := s.image.write a b }
  | alone (c : Remainder) : Move s (s.setAloneCrc c)
  | start (n : Nat) (h : s.isBusy = false) (h1 : 1 ≤ n) (hm : n ≤ s.params.maxImageLen)
      (hl : imageLoaded s.image n = true) : Move s (s.startSession n)
  | arrive (q : List RxItem) (h : s.st ≠ stGo ∧ s.st ≠ stAckWait ∧ s.st ≠ stEotWait) : Move s (s.setRx q)
  | menu (h : s.st = stReq) :
      Move s (({ s with tx := s.tx ++ [s.params.menuUploadByte], txAnswers := s.txAnswers.tail } : State).setSt stGo)
  | soh (h : s.st = stHdrSoh) :
      Move s (((({ s with tx := s.tx ++ [sohByte], txAnswers := s.txAnswers.tail } : State).setCrc crcInit).setK 0).setSt
        stHdrNum)
  | blkNum (h : s.st = stHdrNum) :
      Move s (({ s with tx := s.tx ++ [blkField s.idx], txAnswers := s.txAnswers.tail } : State).setSt stHdrCmp)
  | blkCmp (h : s.st = stHdrCmp) :
      Move s (({ s with tx := s.tx ++ [cmpField s.idx], txAnswers := s.txAnswers.tail } : State).setSt stData)
  | data (b : Byte) (h : s.st = stData) (hb : s.dataByte = some b) :
      Move s (({ s with tx := s.tx ++ [b], txAnswers := s.txAnswers.tail } : State).foldData b)
  | crcHi (h : s.st = stCrcHi) :
      Move s (({ s with tx := s.tx ++ [crcHiField s.crc], txAnswers := s.txAnswers.tail } : State).setSt stCrcLo)
  | crcLo (h : s.st = stCrcLo) :
      Move s (({ s with tx := s.tx ++ [crcLoField s.crc], txAnswers := s.txAnswers.tail } : State).setSt stAckWait)
  | prog (h : s.st = stProg) : Move s s.progress
  | eot (h : s.st = stEotTx) :
      Move s (({ s with tx := s.tx ++ [eotByte], txAnswers := s.txAnswers.tail } : State).setSt stEotWait)
  | go (q : List RxItem) (h : s.st = stGo) : Move s ((s.setRx q).setSt stHdrSoh)
  | ack (q : List RxItem) (h : s.st = stAckWait) : Move s ((s.setRx q).setSt stProg)
  | confirm (q : List RxItem) (h : s.st = stEotWait) : Move s (s.setRx q).succeed
  | sendAbort (r : ResCode) (p : PhaseCode) (i : Nat) (h : s.AbortRow r p i) :
      Move s (({ s with txAnswers := s.txAnswers.tail } : State).abort r p i)
  | readAbort (q : List RxItem) (r : ResCode) (p : PhaseCode) (i : Nat) (h : s.AbortRow r p i) :
      Move s ((s.setRx q).abort r p i)

theorem sentOnly_next {here : Bool} {r : Result} {t : State} (h : sentOnly here r = .next t) :
    here = true ∧ r = .next t := by
  unfold sentOnly at h
  split at h
  · exact ⟨‹_›, h⟩
  · cases h

theorem move_menu {s : State} (h : s.st = stReq) : Move s s.sendMenu := by
  rcases s.sendByte_cases _ _ _ _ _ with ⟨-, e⟩ | ⟨-, e⟩ <;> rw [State.sendMenu, e]
  · exact .menu h
  · exact .sendAbort _ _ _ (.inl ⟨h, rfl, rfl, rfl⟩)

theorem abortRow_block {s : State}
    (h : s.st = stHdrSoh ∨ s.st = stHdrNum ∨ s.st = stHdrCmp ∨ s.st = stData ∨ s.st = stCrcHi ∨ s.st = stCrcLo) :
    s.AbortRow resIoError phBlockLoop s.idx :=
  .inr (.inr (.inl ⟨h, rfl, rfl, rfl⟩))

/-- A send of the block loop moves as its own writes say, or aborts. -/
theorem move_sendInBlock {s : State} {b : Byte} {f : State → State}
    (h : s.st = stHdrSoh ∨ s.st = stHdrNum ∨ s.st = stHdrCmp ∨ s.st = stData ∨ s.st = stCrcHi ∨ s.st = stCrcLo)
    (hf : Move s (f { s with tx := s.tx ++ [b], txAnswers := s.txAnswers.tail })) : Move s (s.sendInBlock b f) := by
  rcases s.sendByte_cases _ _ _ _ _ with ⟨-, e⟩ | ⟨-, e⟩ <;> rw [State.sendInBlock, e]
  · exact hf
  · exact .sendAbort _ _ _ (abortRow_block h)

theorem move_soh {s : State} (h : s.st = stHdrSoh) : Move s s.sendSoh := move_sendInBlock (by simp [h]) (.soh h)
theorem move_blkNum {s : State} (h : s.st = stHdrNum) : Move s s.sendBlkNum :=
  move_sendInBlock (by simp [h]) (.blkNum h)
theorem move_blkCmp {s : State} (h : s.st = stHdrCmp) : Move s s.sendBlkCmp :=
  move_sendInBlock (by simp [h]) (.blkCmp h)
theorem move_crcHi {s : State} (h : s.st = stCrcHi) : Move s s.sendCrcHi := move_sendInBlock (by simp [h]) (.crcHi h)
theorem move_crcLo {s : State} (h : s.st = stCrcLo) : Move s s.sendCrcLo := move_sendInBlock (by simp [h]) (.crcLo h)

theorem move_data {s t : State} (h : s.st = stData) (e : s.sendData = .next t) : Move s t := by
  unfold State.sendData at e
  split at e
  · cases e
  · cases e; exact move_sendInBlock (by simp [h]) (.data _ h ‹_›)

theorem move_eot {s : State} (h : s.st = stEotTx) : Move s s.sendEot := by
  rcases s.sendByte_cases _ _ _ _ _ with ⟨-, e⟩ | ⟨-, e⟩ <;> rw [State.sendEot, e]
  · exact .eot h
  · exact .sendAbort _ _ _ (by simp [State.AbortRow, h])

/-- GO's moves, whatever stands on the stream when it reads. -/
theorem move_go {s t : State} (q : List RxItem) (h : s.st = stGo) (e : (s.setRx q).readGo = .next t) : Move s t := by
  rcases State.readGo_cases e with ⟨r, rfl⟩ | ⟨r, rfl⟩ | ⟨r, rfl⟩ | ⟨r, rfl⟩
  · exact .readAbort r _ _ _ (by simp [State.AbortRow, h])
  · exact .readAbort r _ _ _ (by simp [State.AbortRow, h])
  · exact .readAbort r _ _ _ (by simp [State.AbortRow, h])
  · exact .go r h

theorem move_ack {s t : State} (q : List RxItem) (h : s.st = stAckWait) (e : (s.setRx q).readAck = .next t) :
    Move s t := by
  rcases State.readAck_cases e with ⟨r, rfl⟩ | ⟨r, rfl⟩
  · exact .readAbort r _ _ _ (by simp [State.AbortRow, h])
  · exact .ack r h

theorem move_eotWait {s t : State} (q : List RxItem) (h : s.st = stEotWait) (e : (s.setRx q).readEot = .next t) :
    Move s t := by
  rcases State.readEot_cases e with ⟨r, rfl⟩ | ⟨r, rfl⟩ | ⟨r, rfl⟩
  · exact .readAbort r _ _ _ (by simp [State.AbortRow, h])
  · exact .readAbort r _ _ _ (by simp [State.AbortRow, h])
  · exact .confirm r h

theorem move_receive {s t : State} {b : Byte} (e : s.receive b = .next t) : Move s t := by
  unfold State.receive at e
  split at e
  · exact move_go _ ‹_› e
  · split at e
    · exact move_ack _ ‹_› e
    · split at e
      · exact move_eotWait _ ‹_› e
      · cases e; exact .arrive _ ⟨‹_›, ‹_›, ‹_›⟩

theorem move_start {s t : State} {n : Nat} (e : execStart n s = .next t) : Move s t := by
  unfold execStart at e
  split at e
  · cases e
  · split at e
    · cases e
    · split at e
      · cases e
      · split at e
        · cases e; exact .start n (by simp_all) (by omega) (by omega) ‹_›
        · cases e

/-- XFSM's own turn. -/
theorem move_xfsm {s t : State} (e : exec s.xfsmInstr s = .next t) : Move s t := by
  have hst : ∀ n, s.st.toNat = n → n < 16 → s.st = BitVec.ofNat 4 n := fun n h _ => by
    rw [← h, BitVec.ofNat_toNat, BitVec.setWidth_eq]
  have hlt := s.st.isLt
  unfold State.xfsmInstr at e
  generalize hn : s.st.toNat = n at e hlt
  have h := hst n hn (by omega)
  interval_cases n <;> simp only [decodeState, exec] at e
  · cases e; exact .rest (by rw [State.isBusy, h]; rfl)
  · cases e; exact move_menu h
  · exact move_go s.rx h e
  · cases e; exact move_soh h
  · cases e; exact move_blkNum h
  · cases e; exact move_blkCmp h
  · exact move_data h e
  · cases e; exact move_crcHi h
  · cases e; exact move_crcLo h
  · exact move_ack s.rx h e
  · cases e; exact .prog h
  · cases e; exact move_eot h
  · exact move_eotWait s.rx h e
  · cases e; exact .rest (by rw [State.isBusy, h]; rfl)
  · cases e; exact .rest (by rw [State.isBusy, h]; rfl)
  · cases e

theorem move_host {s t : State} {w : Nat} {i : Instr} (d : decodeHost w = .ok i) (e : exec i s = .next t) :
    Move s t := by
  unfold decodeHost at d
  split at d
  · cases d; exact move_start e
  · split at d
    · cases d
    · split at d
      · cases d; cases e
      · split at d
        · cases d; cases e; exact .report
        · cases d; cases e

/-- Everything a command of the CRCU that stands alone can do: write that unit's CRC. -/
theorem State.runAlone_next {s t : State} {n : Nat} {din : Byte} (e : s.runAlone (decodeCrc n din) = .next t) :
    ∃ c, t = s.setAloneCrc c := by
  unfold decodeCrc at e
  split at e <;> cases e <;> exact ⟨_, rfl⟩

theorem move_tx {s t : State} {pos : TxPos} {b : Byte} {i : Instr} (d : decodeTx pos b = .ok i)
    (e : exec i s = .next t) : Move s t := by
  cases pos <;> simp only [decodeTx] at d
  · cases d
    obtain ⟨h, e⟩ := sentOnly_next e
    cases e
    exact move_menu (by simp [TxPos.sender] at h; exact h.1)
  · split at d
    · cases d
      obtain ⟨h, e⟩ := sentOnly_next e
      cases e
      exact move_soh (by simpa [TxPos.sender] using h)
    · cases d
  · cases d
    obtain ⟨h, e⟩ := sentOnly_next e
    cases e
    exact move_blkNum (by simp [TxPos.sender] at h; exact h.1)
  · cases d
    obtain ⟨h, e⟩ := sentOnly_next e
    cases e
    exact move_blkCmp (by simp [TxPos.sender] at h; exact h.1)
  · cases d
    obtain ⟨h, e⟩ := sentOnly_next e
    exact move_data (by simp [TxPos.sender] at h; exact h.1) e
  · cases d
    obtain ⟨h, e⟩ := sentOnly_next e
    cases e
    exact move_crcHi (by simp [TxPos.sender] at h; exact h.1)
  · cases d
    obtain ⟨h, e⟩ := sentOnly_next e
    cases e
    exact move_crcLo (by simp [TxPos.sender] at h; exact h.1)
  · split at d
    · cases d
      obtain ⟨h, e⟩ := sentOnly_next e
      cases e
      exact move_eot (by simpa [TxPos.sender] using h)
    · cases d

theorem move_rx {s t : State} {b : Byte} (e : exec (decodeRx b) s = .next t) : Move s t := by
  unfold decodeRx at e
  split at e
  · exact move_receive e
  · split at e <;> exact move_receive e

/-- A word's turn. -/
theorem move_word {s t : State} {l : Lane} {w : Nat} (e : s.runWord l w = .next t) : Move s t := by
  unfold State.runWord at e
  split at e
  · cases e
  next hs =>
    split at e
    · cases e
    next i hi =>
      cases l with
      | st =>
        simp only [true_and, ne_eq, not_not] at hs
        subst hs
        simp only [decode, s.st.isLt, if_true] at hi
        cases hi; exact move_xfsm e
      | hcmd => exact move_host hi e
      | crcOp =>
        simp only [decode] at hi
        split at hi
        · cases hi
          obtain ⟨c, rfl⟩ := State.runAlone_next e
          exact .alone c
        · cases hi
      | tx pos =>
        simp only [decode] at hi
        split at hi
        · exact move_tx hi e
        · cases hi
      | rx =>
        simp only [decode] at hi
        split at hi
        · cases hi; exact move_rx e
        · cases hi

/-- Everything a step can do: a reset, or, where no reserved code stands, one of the moves. -/
theorem step_moves {s t : State} (e : step s = .next t) :
    (s.nextTurn = .reset ∧ t = s.dropTurn.resetRegs) ∨
    (s.nextTurn ≠ .reset ∧ s.reservedCode = false ∧ Move s.dropTurn t) := by
  unfold step State.runStep at e
  split at e
  · cases e
  next hr =>
    unfold State.runTurn at e
    split at e
    next ht => exact .inr ⟨by simp [ht], by simpa [ht] using hr, move_xfsm e⟩
    next ht => exact .inr ⟨by simp [ht], by simpa [ht] using hr, move_word e⟩
    next ht => cases e; exact .inl ⟨ht, rfl⟩
    next ht =>
      split at e
      · cases e
      next hb =>
        cases e
        exact .inr ⟨by simp [ht], by simpa [ht] using hr, .imageWrite _ _ (by simpa using hb)⟩

end Sys2Proof.Machine
end

