-- ==== Sys2Proof/Tests/Slice0.lean ====
section
/-! SUPPORT. Own tests. Expected values come from spec/95_test_vectors.md and the rules' corner cases, never from the model. The second half
gives, for every statement with hypotheses, a concrete state and operands that meet them. -/

namespace Sys2Proof.Tests

open Sys2Proof.Machine

/-! ### Small states -/

def params : Params := { menuUploadByte := 0xAB, idleMax := 8, maxImageLen := 1024 }

/-- After reset, with an image of two bytes in the memory. -/
def fresh : State := { State.resetWith params with image := [(0, 0x41), (1, 0x42)] }

/-- The session START begins there: LEN = 2, NBLK = 1. -/
def session : State := fresh.startSession 2

/-- The session at a state, K given. -/
def inState (c : StCode) (k : BitVec 8) : State := { session with st := c, k := k }

/-- The session after its last PROG. -/
def closing (c : StCode) : State := { session with st := c, k := 128, pcnt := 1 }

/-- LEN = 300, IDX = 3, as in V-FSM. -/
def third (c : StCode) : State :=
  { State.resetWith params with
    st := c, len := 300, nblk := 3, idx := 3, pcnt := 2, res := resBusy, crc := 0xE80A, image := [(299, 0x2B)] }

def bytes (l : List Byte) : List RxItem := l.map .byte

def nextOf : Result → Option State
  | .next t => some t
  | _ => none

def view {α : Type} (f : State → α) (r : Result) : Option α := (nextOf r).map f

def refusalOf : Result → Option Refusal
  | .refused r => some r
  | _ => none

def faultOf : Result → Option Fault
  | .fault r => some r
  | _ => none

/-! ### Well-formedness: an ill-formed term for each check -/

/-- 0x06 is RX_ACK, not "any other byte". -/
theorem test_wf_refuses_ack_as_other : (Instr.rxOther 0x06).wellFormed = false := by decide
/-- 0x43 is RX_GO_C, not "any other byte". -/
theorem test_wf_refuses_go_as_other : (Instr.rxOther 0x43).wellFormed = false := by decide
theorem test_wf_accepts_nak : (Instr.rxOther 0x15).wellFormed = true := by decide

/-! ### Decoding: words from 30_encoding R71 to R73, R76, R81, R82 -/

theorem test_decode_states :
    (List.range 16).map (decode .st) =
      [.ok .idle, .ok .req, .ok .go, .ok .hdrSoh, .ok .hdrNum, .ok .hdrCmp, .ok .data, .ok .crcHi, .ok .crcLo,
       .ok .ackWait, .ok .prog, .ok .eotTx, .ok .eotWait, .ok .doneOk, .ok .doneErr, .ok .reservedSt] := by decide
theorem test_decode_state_too_wide : decode .st 16 = .error .wordTooWide := by decide
theorem test_decode_host :
    decode .hcmd 0b00 = .ok .hcmdReserved00 ∧ decode .hcmd 0b10 = .ok .readStatus ∧
    decode .hcmd 0b11 = .ok .hcmdReserved11 ∧ decode .hcmd 0b101 = .ok (.start 1) ∧
    decode .hcmd 0b110 = .error .strayOperand := by decide
theorem test_decode_crc :
    decode .crcOp 0b0011111111 = .ok (.crcHold 0xFF) ∧ decode .crcOp 0b0100000001 = .ok (.crcClear 0x01) ∧
    decode .crcOp 0b1001010110 = .ok (.crcUpdate 0x56) ∧ decode .crcOp 0b1100000000 = .ok (.crcReserved11 0x00) ∧
    decode .crcOp 0b10000000000 = .error .wordTooWide := by decide
theorem test_decode_transmitted :
    decode (.tx .menu) 0x31 = .ok (.txMenuUpload 0x31) ∧ decode (.tx .soh) 0x01 = .ok .txSoh ∧
    decode (.tx .soh) 0x02 = .error .notTheFixedByte ∧ decode (.tx .blkNum) 0x03 = .ok (.txBlknum 0x03) ∧
    decode (.tx .blkCmp) 0xFC = .ok (.txBlkcmp 0xFC) ∧ decode (.tx .data) 0x04 = .ok (.txData 0x04) ∧
    decode (.tx .crcHi) 0xE8 = .ok (.txCrcHi 0xE8) ∧ decode (.tx .crcLo) 0x0A = .ok (.txCrcLo 0x0A) ∧
    decode (.tx .eot) 0x04 = .ok .txEot ∧ decode (.tx .eot) 256 = .error .wordTooWide := by decide
theorem test_decode_received :
    decode .rx 0x06 = .ok .rxAck ∧ decode .rx 0x43 = .ok .rxGoC ∧ decode .rx 0x63 = .ok (.rxOther 0x63) := by decide
/-- The four words the table fixes whole, and one of each other width. -/
theorem test_decode_table_words :
    decodeTableWord 8 0x01 = some .txSoh ∧ decodeTableWord 8 0x04 = some .txEot ∧ decodeTableWord 8 0x06 = some .rxAck ∧
    decodeTableWord 8 0x43 = some .rxGoC ∧ decodeTableWord 4 0b1101 = some .doneOk ∧
    decodeTableWord 2 0b10 = some .readStatus ∧ decodeTableWord 16 0b1000000001 = some (.crcUpdate 0x01) := by decide

/-! ### CRCU: V-CRC-1, V-CRC-3, V-CRC-4 -/

theorem test_crc_update_vectors :
    crcUpdate 0x0000 0x01 = 0x1021 ∧ crcUpdate 0x0000 0x80 = 0x9188 ∧ crcUpdate 0x0000 0xFF = 0x1EF0 ∧
    crcUpdate 0x8000 0x00 = 0x9188 ∧ crcUpdate 0xFFFF 0x00 = 0xE1F0 ∧ crcUpdate 0x1234 0x56 = 0x3C40 ∧
    crcUpdate 0xFFFF 0xFF = 0xFF00 ∧ crcUpdate 0xE80A 0x00 = 0x7626 := by decide
theorem test_crc_check_value : crc16 [0x31, 0x32, 0x33, 0x34, 0x35, 0x36, 0x37, 0x38, 0x39] = 0x31C3 := by decide +kernel
/-- Sixteen bytes of V-CRC-4's ramp, from `start` on. -/
def ramp (start : Nat) : List Byte := (List.range 16).map fun i => BitVec.ofNat 8 (start + i)

/-- The remainder after sixteen more bytes. -/
def after (c : Remainder) (l : List Byte) : Remainder := l.foldl crcUpdate c

theorem ramp_folds :
    after 0x0000 (ramp 0) = 0x513D ∧ after 0x513D (ramp 16) = 0xD2FF ∧ after 0xD2FF (ramp 32) = 0xCEF2 ∧
    after 0xCEF2 (ramp 48) = 0x2BF5 := by decide +kernel
theorem ramp_folds_on :
    after 0x2BF5 (ramp 64) = 0x734F ∧ after 0x734F (ramp 80) = 0x65A9 ∧ after 0x65A9 (ramp 96) = 0x7C8F ∧ after 0x7C8F (ramp 112) = 0xE80A := by
  decide +kernel
theorem test_crc_of_ramp_block : crc16 ((List.range 128).map (BitVec.ofNat 8)) = 0xE80A := by
  have h : (List.range 128).map (BitVec.ofNat 8) =
      ramp 0 ++ ramp 16 ++ ramp 32 ++ ramp 48 ++ ramp 64 ++ ramp 80 ++ ramp 96 ++ ramp 112 := by decide +kernel
  obtain ⟨h0, h1, h2, h3⟩ := ramp_folds
  obtain ⟨h4, h5, h6, h7⟩ := ramp_folds_on
  unfold after at *
  simp only [crc16, crcInit, crcXorOut, h, List.foldl_append, h0, h1, h2, h3, h4, h5, h6, h7]
  decide

/-- Sixteen fill bytes. -/
def fill16 : List Byte := List.replicate 16 0xFF
theorem fill_folds :
    after 0x0000 fill16 = 0x0041 ∧ after 0x0041 fill16 = 0x84B4 ∧ after 0x84B4 fill16 = 0x94DC ∧ after 0x94DC fill16 = 0x278E := by
  decide +kernel
theorem fill_folds_on :
    after 0x278E fill16 = 0x8BF6 ∧ after 0x8BF6 fill16 = 0x8A16 ∧ after 0x8A16 fill16 = 0xC13D ∧ after 0xC13D fill16 = 0xEDA9 := by
  decide +kernel
theorem test_crc_of_fill_block : crc16 (List.replicate 128 0xFF) = 0xEDA9 := by
  have h : List.replicate 128 (0xFF : Byte) =
      fill16 ++ fill16 ++ fill16 ++ fill16 ++ fill16 ++ fill16 ++ fill16 ++ fill16 := by decide +kernel
  obtain ⟨h0, h1, h2, h3⟩ := fill_folds
  obtain ⟨h4, h5, h6, h7⟩ := fill_folds_on
  unfold after at *
  simp only [crc16, crcInit, crcXorOut, h, List.foldl_append, h0, h1, h2, h3, h4, h5, h6, h7]
  decide
theorem test_crc_table_corners :
    crcTable 0x08 = 0x8108 ∧ crcTable 0x43 = 0x78A7 ∧ crcTable 0x80 = 0x9188 ∧ crcTable 0xF8 = 0x6E17 := by decide
/-- The remainder after each iteration for 0x0000, FF (V-CRC-2). -/
theorem test_crc_iterations :
    [1, 2, 3, 4, 5, 6, 7, 8].map (fun n => crcShifts n 0xFF00) =
      [0xEE21, 0xCC63, 0x88E7, 0x01EF, 0x03DE, 0x07BC, 0x0F78, 0x1EF0] := by decide
theorem test_crc_hold : view State.crc (exec (.crcHold 0xFF) (third stIdle)) = some 0xE80A := by decide
theorem test_crc_clear : view State.crc (exec (.crcClear 0xFF) (third stIdle)) = some 0x0000 := by decide
theorem test_crc_update : view State.crc (exec (.crcUpdate 0x00) (third stIdle)) = some 0x7626 := by decide
theorem test_crc_reserved : refusalOf (exec (.crcReserved11 0) fresh) = some .reservedCrcOp := by decide
/-- A CRC command from outside runs on the CRCU that stands alone; XMTX's CRC has no such writer (R20, R31, R73). -/
theorem test_crc_word_stands_alone :
    view (fun t => (t.aloneCrc, t.crc)) (step { third stData with aloneCrc := 0x1234, turns := [.word .crcOp 0b1001010110] }) =
      some (0x3C40, 0xE80A) := by decide

/-! ### Host operations: V-START and V-STATUS -/

theorem test_start_registers :
    view (fun t => (t.st, t.len, t.nblk, t.idx)) (exec (.start 2) fresh) = some (stReq, 2, 1, 1) ∧
    view (fun t => (t.k, t.crc, t.res, t.resPhase)) (exec (.start 2) fresh) = some (0, 0x0000, resBusy, phNa) ∧
    view (fun t => (t.resIdx, t.pcnt, t.tx, t.events)) (exec (.start 2) fresh) = some (0, 0, [], []) := by decide
/-- Block counts and fill bytes of V-PAD, and R100's corner cases. -/
theorem test_block_counts :
    [1, 127, 128, 129, 256, 300, 384, 385, 32640, 32896].map blocksOf = [1, 1, 1, 2, 2, 3, 3, 4, 255, 257] ∧
    paddedLen 300 - 300 = 84 := by decide
theorem test_start_refusals :
    refusalOf (exec (.start 0) fresh) = some .startEmptyImage ∧
    refusalOf (exec (.start 1025) fresh) = some .startImageTooLong ∧
    refusalOf (exec (.start 3) fresh) = some .startImageNotLoaded ∧
    refusalOf (exec (.start 1) session) = some .startWhileBusy := by decide
/-- START after an abort leaves nothing of the old session (R100, R185). -/
theorem test_start_after_abort :
    view (fun t => (t.st, t.idx, t.res, t.resPhase, t.resIdx, t.pcnt)) (exec (.start 1)
      { fresh with st := stDoneErr, res := resNoGoAhead, resPhase := phAwaitGoAhead, idx := 1 }) =
      some (stReq, 1, resBusy, phNa, 0, 0) := by decide
theorem test_status_after_reset :
    view State.statusOut (exec .readStatus fresh) =
      some [⟨stIdle, false, false, false, resNone, phNa, 0, 0, 0, 0, 0⟩] := by decide
/-- P8: READ_STATUS of a block stuck in ACK_WAIT. -/
theorem test_status_while_stuck :
    view State.statusOut (step { inState stAckWait 128 with len := 300, nblk := 3, turns := [.word .hcmd 0b10] }) =
      some [⟨stAckWait, true, false, false, resBusy, phNa, 0, 1, 3, 0, 300⟩] := by decide
theorem test_hcmd_reserved :
    refusalOf (exec .hcmdReserved00 fresh) = some .reservedHcmd ∧
    refusalOf (exec .hcmdReserved11 fresh) = some .reservedHcmd := by decide
theorem test_image_write :
    view State.image (step { fresh with turns := [.imageWrite 1 0x99] }) = some [(0, 0x41), (1, 0x99)] ∧
    refusalOf (step { session with turns := [.imageWrite 1 0x99] }) = some .imageWriteWhileBusy := by decide
/-- Reset in mid-session: registers back, no DONE (R201). -/
theorem test_reset_in_session :
    view (fun t => (t.st, t.res, t.idx, t.events)) (step { third stData with turns := [.reset] }) =
      some (stIdle, resNone, 0, []) := by decide

/-! ### XFSM: V-FSM -/

theorem test_idle_rests : nextOf (step fresh) = some fresh := by decide
theorem test_done_states_rest :
    view State.st (exec .doneOk (closing stDoneOk)) = some stDoneOk ∧
    view State.st (exec .doneErr (closing stDoneErr)) = some stDoneErr := by decide
theorem test_reserved_state : faultOf (step { fresh with st := 0xF }) = some .reservedState := by decide
theorem test_reserved_result : faultOf (step { fresh with res := 9 }) = some .reservedState := by decide

theorem test_req_sends_menu : view (fun t => (t.tx, t.st)) (exec .req session) = some ([0xAB], stGo) := by decide
theorem test_req_fails :
    view (fun t => (t.tx, t.st, t.res, t.resPhase, t.resIdx)) (exec .req { session with txAnswers := [.fail] }) =
      some ([], stDoneErr, resMenuSelectFailed, phRequestTransfer, 0) := by decide
theorem test_go_accepts_text_ending_in_c :
    view State.st (exec .go { inState stGo 0 with rx := bytes [0x42, 0x4C, 0x20, 0x3E, 0x20, 0x43] }) =
      some stHdrSoh := by decide
theorem test_go_refuses_others :
    [[RxItem.byte 0x43, .byte 0x0D], [.byte 0x63], [.byte 0xC3], [.idle], [.fail]].map
      (fun q => view (fun t => (t.res, t.resPhase)) (exec .go { inState stGo 0 with rx := q })) =
      [some (resUnexpectedTransferType, phAwaitGoAhead), some (resUnexpectedTransferType, phAwaitGoAhead),
       some (resUnexpectedTransferType, phAwaitGoAhead), some (resNoGoAhead, phAwaitGoAhead),
       some (resIoError, phAwaitGoAhead)] := by decide
theorem test_soh_clears :
    view (fun t => (t.tx, t.crc, t.k, t.st)) (exec .hdrSoh { inState stHdrSoh 128 with idx := 2, crc := 0xE80A }) =
      some ([0x01], 0x0000, 0, stHdrNum) := by decide
theorem test_soh_fails :
    view (fun t => (t.res, t.resPhase, t.resIdx, t.crc)) (exec .hdrSoh { third stHdrSoh with idx := 7, txAnswers := [.fail] }) =
      some (resIoError, phBlockLoop, 7, 0xE80A) := by decide
/-- V-HDR: block numbers and complements at 1, 255, 256, 257, 512, 65535. -/
theorem test_header_bytes :
    [1, 255, 256, 257, 512, 65535].map (fun i =>
      (view State.tx (exec .hdrNum { third stHdrNum with idx := i }), view State.tx (exec .hdrCmp { third stHdrCmp with idx := i }))) =
      [(some [0x01], some [0xFE]), (some [0xFF], some [0x00]), (some [0x00], some [0xFF]), (some [0x01], some [0xFE]),
       (some [0x00], some [0xFF]), (some [0xFF], some [0x00])] := by decide
theorem test_header_fails :
    view State.resIdx (exec .hdrNum { third stHdrNum with txAnswers := [.fail] }) = some 3 ∧
    view State.st (exec .hdrCmp { third stHdrCmp with txAnswers := [.fail] }) = some stDoneErr := by decide
/-- LEN = 300, IDX = 3: K = 43 sends IMG[299], K = 44 the fill byte. -/
theorem test_data_last_byte_and_fill :
    view (fun t => (t.tx, t.k, t.st)) (exec .data { third stData with k := 43 }) = some ([0x2B], 44, stData) ∧
    view (fun t => (t.tx, t.k, t.st)) (exec .data { third stData with k := 44 }) = some ([0xFF], 45, stData) := by decide
/-- The 128th byte ends the block; a failed write leaves K and CRC (P7). -/
theorem test_data_ends_and_fails :
    view (fun t => (t.k, t.st)) (exec .data { third stData with k := 127 }) = some (128, stCrcHi) ∧
    view (fun t => (t.tx, t.k, t.crc, t.res, t.resIdx))
      (exec .data { inState stData 5 with crc := 0x0D03, txAnswers := [.fail] }) =
      some ([], 5, 0x0D03, resIoError, 1) := by decide
theorem test_data_absent_byte :
    faultOf (exec .data { third stData with k := 42 }) = some (.imageByteAbsent 298) := by decide
theorem test_crc_hi_sends : view (fun t => (t.tx, t.crc, t.st)) (exec .crcHi (third stCrcHi)) = some ([0xE8], 0xE80A, stCrcLo) := by
  decide
theorem test_crc_lo_sends : view (fun t => (t.tx, t.crc, t.st)) (exec .crcLo (third stCrcLo)) = some ([0x0A], 0xE80A, stAckWait) := by
  decide
theorem test_ack_goes_on :
    view (fun t => (t.st, t.rx)) (exec .ackWait { third stAckWait with rx := bytes [0x06, 0x43] }) =
      some (stProg, bytes [0x43]) := by decide
/-- NAK, 'C', 0x86 and a read failure all abort with the full index (C5, C7). -/
theorem test_ack_refuses_others :
    [RxItem.byte 0x15, .byte 0x43, .byte 0x86, .fail].map
      (fun x => view (fun t => (t.st, t.res, t.resPhase, t.resIdx)) (exec .ackWait { third stAckWait with rx := [x] })) =
      List.replicate 4 (some (stDoneErr, resBlockTransferFailed, phBlockLoop, 3)) := by decide
theorem test_prog_next_block :
    view (fun t => (t.events, t.pcnt, t.idx, t.st)) (exec .prog { third stProg with idx := 1, pcnt := 0 }) =
      some ([.progress 1 3], 1, 2, stHdrSoh) := by decide
theorem test_prog_last_block :
    view (fun t => (t.events, t.pcnt, t.idx, t.st)) (exec .prog (third stProg)) =
      some ([.progress 3 3], 3, 3, stEotTx) := by decide
theorem test_eot_sends : view (fun t => (t.tx, t.st)) (exec .eotTx (closing stEotTx)) = some ([0x04], stEotWait) := by decide
theorem test_eot_fails :
    view (fun t => (t.res, t.resPhase, t.resIdx)) (exec .eotTx { closing stEotTx with txAnswers := [.fail] }) =
      some (resIoError, phEndOfTransmission, 0) := by decide
theorem test_eot_wait_confirms :
    view (fun t => (t.st, t.res, t.events)) (exec .eotWait { closing stEotWait with rx := bytes [0x06, 0x43] }) =
      some (stDoneOk, resSuccess, [.done resSuccess phNa 0]) := by decide
theorem test_eot_wait_refuses_others :
    [[RxItem.byte 0x43, .byte 0x06], [.byte 0x15], [.idle], [.fail]].map
      (fun q => view State.res (exec .eotWait { closing stEotWait with rx := q })) =
      [some resTransferNotConfirmed, some resTransferNotConfirmed, some resTransferNotConfirmed, some resIoError] := by decide
theorem test_blocked_reads_are_stuck :
    [stGo, stAckWait, stEotWait].map (fun c => faultOf (step (inState c 128))) =
      List.replicate 3 (some .readNeverReturns) := by decide
/-- An idle-read cut at max_len leaves the rest in the link (R57, R123). -/
theorem test_idle_read_is_cut :
    rxTakeIdle 2 (bytes [0x20, 0x43, 0x0D]) = .reply [0x20, 0x43] (bytes [0x0D]) := by decide

/-! ### Wire rows -/

theorem test_tx_rows_send :
    view State.st (exec (.txMenuUpload 0xAB) session) = some stGo ∧
    view State.st (exec .txSoh (third stHdrSoh)) = some stHdrNum ∧
    view State.st (exec (.txBlknum 0x03) (third stHdrNum)) = some stHdrCmp ∧
    view State.st (exec (.txBlkcmp 0xFC) (third stHdrCmp)) = some stData ∧
    view State.k (exec (.txData 0x2B) { third stData with k := 43 }) = some 44 ∧
    view State.st (exec (.txCrcHi 0xE8) (third stCrcHi)) = some stCrcLo ∧
    view State.st (exec (.txCrcLo 0x0A) (third stCrcLo)) = some stAckWait ∧
    view State.st (exec .txEot (closing stEotTx)) = some stEotWait := by decide
theorem test_tx_rows_elsewhere :
    refusalOf (exec (.txMenuUpload 0x31) session) = some .byteNotSentHere ∧
    refusalOf (exec .txSoh (third stHdrNum)) = some .byteNotSentHere ∧
    refusalOf (exec (.txBlknum 0x04) (third stHdrNum)) = some .byteNotSentHere ∧
    refusalOf (exec .txEot (third stData)) = some .byteNotSentHere := by decide
theorem test_rx_ack :
    view State.st (exec .rxAck (third stAckWait)) = some stProg ∧
    view State.st (exec .rxAck (closing stEotWait)) = some stDoneOk ∧
    view State.res (exec .rxAck (inState stGo 0)) = some resUnexpectedTransferType := by decide
theorem test_rx_go_c :
    view State.st (exec .rxGoC (inState stGo 0)) = some stHdrSoh ∧
    view State.res (exec .rxGoC (third stAckWait)) = some resBlockTransferFailed := by decide
/-- A late byte waits in the link and is read as the next reply (R205). -/
theorem test_rx_other_is_held :
    view State.rx (exec (.rxOther 0x15) (third stData)) = some (bytes [0x15]) ∧
    view State.res (exec (.rxOther 0x15) (closing stEotWait)) = some resTransferNotConfirmed := by decide

/-- The placed words run as the first instruction after reset (log 14). -/
theorem test_fetch_words :
    view State.tx (step (State.reset.withFetchWord 8 0x01)) = some [0x01] ∧
    view State.tx (step (State.reset.withFetchWord 8 0x04)) = some [0x04] ∧
    view State.rx (step (State.reset.withFetchWord 8 0x06)) = some (bytes [0x06]) ∧
    view State.rx (step (State.reset.withFetchWord 8 0x43)) = some (bytes [0x43]) ∧
    view State.st (step (State.reset.withFetchWord 4 0b0101)) = some stData := by decide

/-! ### Witnesses: states and operands that meet each statement's hypotheses -/

/-- A link that answers fail. -/
def refusing (s : State) : State := { s with txAnswers := [.fail] }

theorem session_inv : (session).Inv :=
  ⟨⟨by decide, by decide, by decide, by decide, by decide, by decide, by decide⟩,
    by decide, by decide, by decide, by decide, by decide, by decide, by decide, by decide, by decide, by decide⟩

theorem prog_inv : (inState stProg 128).Inv :=
  ⟨⟨by decide, by decide, by decide, by decide, by decide, by decide, by decide⟩,
    by decide, by decide, by decide, by decide, by decide, by decide, by decide, by decide, by decide, by decide⟩

theorem closing_inv : (closing stEotWait).Inv :=
  ⟨⟨by decide, by decide, by decide, by decide, by decide, by decide, by decide⟩,
    by decide, by decide, by decide, by decide, by decide, by decide, by decide, by decide, by decide, by decide⟩

theorem done_inv : ({ closing stDoneOk with res := resSuccess } : State).Inv :=
  ⟨⟨by decide, by decide, by decide, by decide, by decide, by decide, by decide⟩,
    by decide, by decide, by decide, by decide, by decide, by decide, by decide, by decide, by decide, by decide⟩

theorem witness_DecodeEncodeAgree : (Instr.rxOther 0x44).wellFormed = true := by decide
theorem witness_EncodeDecodeAgree : decode .crcOp 0b1000000110 = .ok (.crcUpdate 0x06) := by decide
theorem witness_FrameLayout : padByte [(0, 0x41)] 1 (128 * (1 - 1) + 0) = some 0x41 ∧ padByte [(0, 0x41)] 1 (128 * (1 - 1) + 127) = some 0xFF := by
  decide
theorem witness_FrameFieldsDecodeInPlace :
    padByte [(0, 0x41)] 1 (128 * (1 - 1) + 0) = some 0x41 ∧ padByte [(0, 0x41)] 1 (128 * (1 - 1) + 127) = some 0xFF ∧
    framePos 0 = some .soh ∧ framePos 1 = some .blkNum ∧ framePos 2 = some .blkCmp ∧ framePos 3 = some .data ∧
    framePos 130 = some .data ∧ framePos 131 = some .crcHi ∧ framePos 132 = some .crcLo ∧ framePos 133 = none := by decide
theorem witness_PaddingFillsTheLastBlock : 0 < 300 ∧ 299 < 300 ∧ 300 ≤ 300 ∧ 300 < paddedLen 300 ∧ 383 < paddedLen 300 := by decide
theorem witness_Crc16IsLinear : ([0x41, 0x42] : List Byte).length = ([0x01, 0xFF] : List Byte).length := by decide
theorem witness_Crc16DetectsOneBit : 0 < 8 ∧ 7 < 8 := by decide
theorem witness_StartBeginsSession :
    fresh.st = stIdle ∧ 1 ≤ 2 ∧ 2 ≤ fresh.params.maxImageLen ∧ (∀ a < 2, (fresh.image.read a).isSome = true) ∧
    ¬ (session.st = stIdle ∨ session.st = stDoneOk ∨ session.st = stDoneErr) ∧ ¬ 1025 ≤ fresh.params.maxImageLen := by decide
theorem witness_RefusedHostInputs :
    session.isBusy = true ∧ fresh.params.maxImageLen < 1025 ∧
    ({ session with turns := [.imageWrite 0 0] } : State).nextTurn = .imageWrite 0 0 ∧
    ({ session with turns := [.imageWrite 0 0] } : State).reservedCode = false ∧
    fresh.st = stIdle ∧ 3 ≤ fresh.params.maxImageLen ∧ 2 < 3 ∧ fresh.image.read 2 = none := by decide
theorem witness_HostWritesOnlyThroughStart :
    nextOf (step { fresh with turns := [.word .hcmd 2] }) = some (fresh.report fresh.statusTuple) ∧
    ({ fresh with turns := [.word .hcmd 2] } : State).nextTurn = .word .hcmd 2 ∧ decode .hcmd 2 = .ok .readStatus ∧
    nextOf (step { fresh with turns := [.imageWrite 2 0] }) = some { fresh with image := fresh.image ++ [(2, 0)] } := by decide
theorem witness_ReservedEncodingsStop :
    ({ fresh with st := 0xF } : State).st = stReserved ∧ 9 ≤ ({ fresh with res := 9 } : State).res.toNat ∧
    5 ≤ ({ fresh with resPhase := 5 } : State).resPhase.toNat ∧ fresh.nextTurn ≠ .reset := by decide
theorem witness_ReqSendsMenuByte : session.txAnswer = .ok ∧ (refusing session).txAnswer = .fail := by decide
theorem witness_GoNeedsReplyEndingInC :
    rxTakeIdle params.idleMax [.fail] = .fail [] ∧ rxTakeIdle params.idleMax [.idle] = .reply [] [] ∧
    rxTakeIdle params.idleMax (bytes [0x43, 0x0D]) = .reply ([0x43] ++ [0x0D]) [] ∧
    rxTakeIdle params.idleMax (bytes [0x43]) = .reply ([] ++ [0x43]) [] := by decide
theorem witness_HdrSohStartsFrame : (third stHdrSoh).txAnswer = .ok ∧ (refusing (third stHdrSoh)).txAnswer = .fail := by decide
theorem witness_HdrNumSendsBlockNumber :
    (third stHdrNum).txAnswer = .ok ∧ (refusing (third stHdrNum)).txAnswer = .fail := by decide
theorem witness_HdrCmpSendsComplement :
    (third stHdrCmp).txAnswer = .ok ∧ (refusing (third stHdrCmp)).txAnswer = .fail := by decide
theorem witness_DataSendsPayloadByte :
    padByte (third stData).image 300 (128 * (3 - 1) + 43) = some 0x2B ∧ padByte (third stData).image 300 (128 * (3 - 1) + 126) = some 0xFF ∧
    padByte (third stData).image 300 (128 * (3 - 1) + 127) = some 0xFF ∧ (third stData).txAnswer = .ok ∧
    (refusing (third stData)).txAnswer = .fail ∧ (126#8).toNat < 127 := by decide
theorem witness_CrcHiSendsHighByte : (third stCrcHi).txAnswer = .ok ∧ (refusing (third stCrcHi)).txAnswer = .fail := by decide
theorem witness_CrcLoSendsLowByte : (third stCrcLo).txAnswer = .ok ∧ (refusing (third stCrcLo)).txAnswer = .fail := by decide
theorem witness_AckWaitPollsOneByte :
    rxTakeByte (bytes [0x06]) = .byte 0x06 [] ∧ rxTakeByte (bytes [0x07]) = .byte 0x07 [] ∧ rxTakeByte [.fail] = .fail [] ∧
    rxTakeByte [.idle] = .never := by decide
theorem witness_ProgReportsAndSelects : (third stProg).idx = (third stProg).nblk ∧ session.idx = session.nblk ∧
    ({ third stProg with idx := 2 } : State).idx ≠ (third stProg).nblk := by decide
theorem witness_EotTxSendsEot : (closing stEotTx).txAnswer = .ok ∧ (refusing (closing stEotTx)).txAnswer = .fail := by decide
theorem witness_EotWaitNeedsAckFirst :
    rxTakeIdle params.idleMax [.fail] = .fail [] ∧ rxTakeIdle params.idleMax [.idle] = .reply [] [] ∧
    rxTakeIdle params.idleMax (bytes [0x15, 0x06]) = .reply (0x15 :: [0x06]) [] ∧
    rxTakeIdle params.idleMax (bytes [0x06]) = .reply (0x06 :: []) [] := by decide
theorem witness_UnansweredReadIsStuck : (third stAckWait).rx = [] := by decide
theorem witness_TransmittedRowsComplete :
    session.txAnswer = .ok ∧ session.st = stReq ∧ (third stHdrSoh).st = stHdrSoh ∧ (third stHdrNum).st = stHdrNum ∧
    (third stHdrCmp).st = stHdrCmp ∧ (third stCrcHi).st = stCrcHi ∧ (third stCrcLo).st = stCrcLo ∧ (closing stEotTx).st = stEotTx ∧
    (third stData).st = stData ∧ (43#8).toNat < 127 ∧ padByte (third stData).image 300 (128 * (3 - 1) + 43) = some 0x2B ∧
    padByte (third stData).image 300 (128 * (3 - 1) + 127) = some 0xFF := by decide
theorem witness_TransmittedRowsAbort :
    (refusing session).txAnswer = .fail ∧ (refusing session).st = stReq ∧ (refusing (third stHdrSoh)).st = stHdrSoh ∧
    (refusing (third stHdrNum)).st = stHdrNum ∧ (refusing (third stHdrCmp)).st = stHdrCmp ∧ (refusing (third stData)).st = stData ∧
    padByte (third stData).image 300 (128 * (3 - 1) + 127) = some 0xFF ∧ (refusing (third stCrcHi)).st = stCrcHi ∧
    (refusing (third stCrcLo)).st = stCrcLo ∧ (refusing (closing stEotTx)).st = stEotTx := by decide
theorem witness_NoOtherByteIsSent :
    fresh.st ≠ stReq ∧ fresh.st ≠ stHdrSoh ∧ fresh.st ≠ stEotTx ∧ (0x31 : Byte) ≠ session.params.menuUploadByte ∧
    (0x02 : Byte).toNat ≠ session.idx % 256 ∧ (0x02 : Byte).toNat ≠ 255 - session.idx % 256 ∧
    padByte session.image session.len (128 * (session.idx - 1) + session.k.toNat) ≠ some 0x02 ∧
    (0x02 : Byte).toNat ≠ session.crc.toNat / 256 ∧ (0x02 : Byte).toNat ≠ session.crc.toNat % 256 := by decide
theorem witness_ReceivedByteIsClassified :
    (inState stGo 0).rx = [] ∧ (third stAckWait).rx = [] ∧ (closing stEotWait).rx = [] ∧ 1 ≤ params.idleMax ∧
    (0x15 : Byte) ≠ 0x06 ∧ (0x15 : Byte) ≠ 0x43 ∧ (inState stGo 0).st = stGo ∧ (third stAckWait).st = stAckWait ∧
    (closing stEotWait).st = stEotWait := by decide
theorem witness_ReceivedByteJoinsTheStream :
    (inState stGo 0).st = stGo ∧ (third stAckWait).st = stAckWait ∧ (closing stEotWait).st = stEotWait ∧ fresh.st ≠ stGo ∧
    fresh.st ≠ stAckWait ∧ fresh.st ≠ stEotWait := by decide
theorem witness_IdleReadReturnsArrivals :
    1 ≤ 2 ∧ rxTakeIdle 2 (bytes [0x20, 0x43, 0x0D]) = .reply [0x20, 0x43] (bytes [0x0D]) ∧
    ([0x43] : List Byte).length < 2 ∧ ([0x20, 0x43] : List Byte).length = 2 := by decide
theorem witness_StepRunsDecodedInstruction :
    session.reservedCode = false ∧ session.nextTurn = .xfsm ∧ decode .st session.st.toNat = .ok .req ∧
    ({ fresh with turns := [.word .hcmd 9] } : State).nextTurn = .word .hcmd 9 ∧ decode .hcmd 9 = .ok (.start 2) ∧
    ({ fresh with turns := [.word .st 0] } : State).nextTurn = .word .st fresh.st.toNat ∧ fresh.reservedCode = false ∧
    ({ fresh with turns := [.word .st 1] } : State).nextTurn = .word .st 1 ∧ 1 ≠ fresh.st.toNat := by decide
/-- The CRC lane's clauses: a command that runs, the reserved one, a word too wide. -/
theorem witness_StepRunsDecodedInstruction_crc :
    ({ session with turns := [.word .crcOp 256] } : State).nextTurn = .word .crcOp 256 ∧ decode .crcOp 256 = .ok (.crcClear 0) ∧
    view State.crc (exec (.crcClear 0) { session with crc := session.aloneCrc }) = some 0 ∧
    decode .crcOp 768 = .ok (.crcReserved11 0) ∧ refusalOf (exec (.crcReserved11 0) session) = some .reservedCrcOp ∧
    decode .crcOp 1024 = .error .wordTooWide := by decide
theorem witness_ResetRestoresRegisters : ({ third stData with turns := [.reset] } : State).nextTurn = .reset := by decide
theorem witness_EveryStepKeepsInvariants : session.Inv ∧ nextOf (step session) = some { inState stGo 0 with tx := [0xAB] } :=
  ⟨session_inv, by decide⟩
theorem witness_SessionBytesAreTheFrames :
    nextOf (exec (.start 2) fresh) = some session ∧ session.Inv ∧ session.isBusy = true ∧ session.TxTracks [] ∧
    nextOf (step session) = some { inState stGo 0 with tx := [0xAB] } ∧
    view State.st (step (refusing session)) = some stDoneErr ∧ (refusing session).TxTracks [] :=
  ⟨by decide, session_inv, by decide, by unfold State.TxTracks State.CrcTracks; decide, by decide, by decide,
    by unfold State.TxTracks State.CrcTracks; decide⟩
theorem witness_SentBytesArePrefix :
    session.Inv ∧ session.isBusy = true ∧ ({ closing stDoneOk with res := resSuccess } : State).Inv ∧ (closing stDoneOk).st = stDoneOk :=
  ⟨session_inv, by decide, done_inv, by decide⟩
theorem witness_AbortsArePrecise :
    view State.st (step (refusing session)) = some stDoneErr ∧ (refusing session).st ≠ stDoneErr := by decide
theorem witness_EventsComeFromTheirSteps :
    (inState stProg 128).Inv ∧ view (fun t => (t.isDone, t.events)) (step (inState stProg 128)) = some (false, [.progress 1 1]) ∧
    (closing stEotWait).Inv ∧ view State.isDone (step { closing stEotWait with turns := [.word .rx 0x06] }) = some true ∧
    (closing stEotWait).isBusy = true :=
  ⟨prog_inv, by decide, closing_inv, by decide, by decide⟩
theorem witness_OneByteOrOneReadPerStep :
    view State.tx (step (third stCrcLo)) = some [0x0A] ∧
    view State.rx (step { third stAckWait with rx := bytes [0x06, 0x43] }) = some (bytes [0x43]) ∧
    view State.rx (step { third stData with turns := [.word .rx 0x15] }) = some (bytes [0x15]) := by decide
theorem witness_XfsmStepsCountDown :
    session.st = stReq ∧ (closing stDoneOk).st = stDoneOk ∧ session.Inv ∧ session.isBusy = true ∧ session.nextTurn = .xfsm ∧
    view State.st (step session) = some stGo :=
  ⟨by decide, by decide, session_inv, by decide, by decide, by decide⟩

/-- The session of CleanSessionSucceeds: LEN = 2, one block. -/
def clean : State := { session with rx := bytes [0x43] ++ .idle :: (List.replicate 1 (.byte 0x06) ++ (bytes [0x06] ++ [.idle])) }

theorem clean_inv : (clean).Inv :=
  ⟨⟨by decide, by decide, by decide, by decide, by decide, by decide, by decide⟩,
    by decide, by decide, by decide, by decide, by decide, by decide, by decide, by decide, by decide, by decide⟩

theorem witness_CleanSessionSucceeds :
    clean.Inv ∧ clean.st = stReq ∧ clean.turns = [] ∧ (∀ a ∈ clean.txAnswers, a = .ok) ∧
    ([0x43] : List Byte).length ≤ clean.params.idleMax ∧ ([0x43] : List Byte).getLast? = some 0x43 ∧
    ([0x06] : List Byte).head? = some 0x06 ∧
    clean.rx = ([0x43] : List Byte).map .byte ++
      .idle :: (List.replicate clean.nblk (.byte 0x06) ++ (([0x06] : List Byte).map .byte ++ [.idle])) :=
  ⟨clean_inv, by decide, by decide, by decide, by decide, by decide, by decide, by decide⟩
theorem witness_SessionConstantsHold :
    session.isBusy = true ∧ session.nextTurn ≠ .reset ∧ view State.st (step session) = some stGo ∧
    view State.idx (step { third stProg with idx := 2 }) = some 3 := by decide
theorem witness_CrcOpOfEachState :
    (third stHdrSoh).nextTurn = .xfsm ∧ view State.st (step (third stHdrSoh)) = some stHdrNum ∧
    view State.st (step { third stData with k := 43 }) = some stData ∧ view State.st (step (third stCrcHi)) = some stCrcLo ∧
    view State.st (step (refusing (third stCrcHi))) = some stDoneErr := by decide
theorem witness_PayloadNeverSteersControl :
    (inState stData 1).control = ({ inState stData 1 with image := [(0, 0), (1, 0)], crc := 1 } : State).control ∧
    (inState stData 1).nextTurn = .xfsm ∧ imageLoaded (inState stData 1).image (inState stData 1).len = true ∧
    imageLoaded [(0, 0), (1, 0)] 2 = true ∧ view State.st (step (inState stData 1)) = some stData := by decide
theorem witness_XfsmStopsOnlyOnUnansweredReads : session.Inv ∧ session.nextTurn = .xfsm :=
  ⟨session_inv, by decide⟩
theorem witness_EarlyAbortSendsNoImage :
    (refusing session).TxTracks [] ∧ view State.st (step (refusing session)) = some stDoneErr ∧ (refusing session).st = stReq ∧
    ({ inState stGo 0 with tx := [0xAB], rx := [.fail] } : State).TxTracks [] ∧
    view State.st (step { inState stGo 0 with tx := [0xAB], rx := [.fail] }) = some stDoneErr :=
  ⟨by unfold State.TxTracks State.CrcTracks; decide, by decide, by decide, by unfold State.TxTracks State.CrcTracks; decide, by decide⟩
theorem witness_RestIsLeftByStartOrReset :
    fresh.isBusy = false ∧ nextOf (step fresh) = some fresh ∧
    nextOf (step { fresh with turns := [.word .hcmd (4 * 2 + 1)] }) = some session ∧
    view State.st (step { fresh with turns := [.reset] }) = some stIdle := by decide
theorem witness_RegistersHaveOnlyTheirWriters :
    (third stHdrSoh).nextTurn = .xfsm ∧ view (fun t => (t.k, t.crc)) (step { third stHdrSoh with k := 5 }) = some (0, 0x0000) ∧
    view State.idx (step { third stProg with idx := 2 }) = some 3 ∧
    view (fun t => (t.res, t.st)) (step (refusing (third stHdrNum))) = some (resIoError, stDoneErr) := by decide

/-- A session in ACK_WAIT whose frame stands on the line; the reply is NAK. -/
def unacknowledged : State :=
  { inState stAckWait 128 with
    tx := [0xAB] ++ framesUpTo session.image 2 1, rx := bytes [0x15] }

theorem unacknowledged_inv : (unacknowledged).Inv :=
  ⟨⟨by decide, by decide, by decide, by decide, by decide, by decide, by decide⟩,
    by decide, by decide, by decide, by decide, by decide, by decide, by decide, by decide, by decide, by decide⟩

theorem unacknowledged_tracks : unacknowledged.TxTracks [] := by
  refine ⟨?_, by decide, by intro h; exact absurd h (by decide), by decide⟩
  simp [State.sessionSent, State.sentBlocks, unacknowledged, inState, session, fresh, params, State.startSession, State.resetWith,
    stAckWait]

theorem witness_UnacknowledgedBlockEndsSession :
    unacknowledged.Inv ∧ unacknowledged.TxTracks [] ∧ unacknowledged.st = stAckWait ∧ unacknowledged.nextTurn = .xfsm ∧
    rxTakeByte unacknowledged.rx = .byte 0x15 [] ∧ (0x15 : Byte) ≠ 0x06 ∧ rxTakeByte [.fail] = .fail [] :=
  ⟨unacknowledged_inv, unacknowledged_tracks, by decide, by decide, by decide, by decide, by decide⟩

end Sys2Proof.Tests
end

section
/-! SUPPORT. The ports one step touches (00_scope R9): at most one byte goes out, and the RX stream is left as at most one read leaves it. -/

namespace Sys2Proof.Machine

/-! ### Inversion of a step: the turn, then the decoded instruction -/

/-- A step with a next state is the move of its turn, the turn taken off the list. -/
theorem step_runTurn {s t : State} (e : step s = .next t) : s.dropTurn.runTurn s.nextTurn = .next t := by
  unfold step State.runStep at e
  split at e
  · cases e
  · exact e

/-- A word with a next state decodes, and its instruction runs on the block, or, on the CRC lane, on the CRCU that stands alone. -/
theorem State.runWord_next {s t : State} {l : Lane} {w : Nat} (e : s.runWord l w = .next t) :
    ∃ i, decode l w = .ok i ∧ (s.runAlone i = .next t ∨ exec i s = .next t) := by
  unfold State.runWord at e
  split at e
  · cases e
  · split at e
    · cases e
    next i hi =>
      split at e
      · exact ⟨i, hi, .inl e⟩
      · exact ⟨i, hi, .inr e⟩

/-- An accepted START is R100's register writes. -/
theorem execStart_next {s t : State} {n : Nat} (e : execStart n s = .next t) : t = s.startSession n := by
  unfold execStart at e
  split_ifs at e
  cases e; rfl

/-! ### One read -/

/-- The stream `r` is the stream `q` as it stands, or as one `RxByte` or one `RxIdle` of at most `max` bytes leaves it (R56, R57, R60). -/
def OneReadLeaves (max : Nat) (q r : List RxItem) : Prop :=
  r = q ∨ (∃ b, rxTakeByte q = .byte b r) ∨ rxTakeByte q = .fail r ∨
    (∃ reply, rxTakeIdle max q = .reply reply r) ∨ rxTakeIdle max q = .fail r

theorem OneReadLeaves.of_eq {max : Nat} {q r : List RxItem} (h : r = q) : OneReadLeaves max q r := .inl h

theorem OneReadLeaves.of_byte {max : Nat} {q r : List RxItem} {b : Byte} (h : rxTakeByte q = .byte b r) :
    OneReadLeaves max q r := .inr (.inl ⟨b, h⟩)

theorem OneReadLeaves.of_byteFail {max : Nat} {q r : List RxItem} (h : rxTakeByte q = .fail r) :
    OneReadLeaves max q r := .inr (.inr (.inl h))

theorem OneReadLeaves.of_reply {max : Nat} {q r : List RxItem} {reply : List Byte}
    (h : rxTakeIdle max q = .reply reply r) : OneReadLeaves max q r := .inr (.inr (.inr (.inl ⟨reply, h⟩)))

theorem OneReadLeaves.of_idleFail {max : Nat} {q r : List RxItem} (h : rxTakeIdle max q = .fail r) :
    OneReadLeaves max q r := .inr (.inr (.inr (.inr h)))

@[simp] theorem State.classifyGo_rx (s : State) (reply : List Byte) : (s.classifyGo reply).rx = s.rx := by
  unfold State.classifyGo
  split
  · rfl
  · split <;> rfl

@[simp] theorem State.classifyEot_rx (s : State) (reply : List Byte) : (s.classifyEot reply).rx = s.rx := by
  unfold State.classifyEot
  split <;> rfl

/-- GO makes one idle-read (R123). -/
theorem State.readGo_oneRead {s t : State} (e : s.readGo = .next t) :
    OneReadLeaves s.params.idleMax s.rx t.rx := by
  unfold State.readGo at e
  split at e
  · cases e
  next h => cases e; exact .of_idleFail h
  next h => cases e; exact .of_reply (by simpa using h)

/-- ACK_WAIT makes one byte read (R130). -/
theorem State.readAck_oneRead {s t : State} (e : s.readAck = .next t) :
    OneReadLeaves s.params.idleMax s.rx t.rx := by
  unfold State.readAck at e
  split at e
  · cases e
  next h => cases e; exact .of_byteFail h
  next h =>
    cases e
    split <;> exact .of_byte h

/-- EOT_WAIT makes one idle-read (R133). -/
theorem State.readEot_oneRead {s t : State} (e : s.readEot = .next t) :
    OneReadLeaves s.params.idleMax s.rx t.rx := by
  unfold State.readEot at e
  split at e
  · cases e
  next h => cases e; exact .of_idleFail h
  next h => cases e; exact .of_reply (by simpa using h)

/-- An arriving byte stands behind the stream, and the state that waits for it makes its one read of the longer stream (log 12). -/
theorem State.receive_oneRead {s t : State} {b : Byte} (e : s.receive b = .next t) :
    OneReadLeaves s.params.idleMax (s.rx ++ [.byte b]) t.rx := by
  unfold State.receive at e
  split at e
  · exact State.readGo_oneRead e
  · split at e
    · exact State.readAck_oneRead e
    · split at e
      · exact State.readEot_oneRead e
      · cases e; exact .of_eq rfl

/-! ### A sending step leaves the RX stream -/

section
variable (s : State)

theorem State.sendByte_rx (b : Byte) (r : ResCode) (p : PhaseCode) (i : Nat) (f : State → State)
    (hf : ∀ u, (f u).rx = u.rx := by intro; rfl) : (s.sendByte b r p i f).rx = s.rx := by
  rcases s.sendByte_cases b r p i f with ⟨-, h⟩ | ⟨-, h⟩
  · rw [h, hf]
  · rw [h, State.abort_rx]

@[simp] theorem State.sendMenu_rx : s.sendMenu.rx = s.rx := s.sendByte_rx ..
@[simp] theorem State.sendSoh_rx : s.sendSoh.rx = s.rx := s.sendByte_rx ..
@[simp] theorem State.sendBlkNum_rx : s.sendBlkNum.rx = s.rx := s.sendByte_rx ..
@[simp] theorem State.sendBlkCmp_rx : s.sendBlkCmp.rx = s.rx := s.sendByte_rx ..
@[simp] theorem State.sendCrcHi_rx : s.sendCrcHi.rx = s.rx := s.sendByte_rx ..
@[simp] theorem State.sendCrcLo_rx : s.sendCrcLo.rx = s.rx := s.sendByte_rx ..
@[simp] theorem State.sendEot_rx : s.sendEot.rx = s.rx := s.sendByte_rx ..

@[simp] theorem State.progress_rx : s.progress.rx = s.rx := by
  unfold State.progress
  split <;> rfl

@[simp] theorem State.progress_tx : s.progress.tx = s.tx := by
  unfold State.progress
  split <;> rfl

end

theorem State.sendData_rx {s t : State} (e : s.sendData = .next t) : t.rx = s.rx := by
  unfold State.sendData at e
  split at e
  · cases e
  · cases e; exact s.sendByte_rx ..

/-! ### What an instruction brings to the stream, and the read it makes -/

/-- What an instruction puts behind the RX stream: its byte when it is a received row (R82; log 12), nothing otherwise. -/
def arrivals : Instr → List RxItem
  | .rxAck => [.byte ackByte]
  | .rxGoC => [.byte goByte]
  | .rxOther x => [.byte x]
  | _ => []

theorem arrivals_decodeState (n : Nat) : arrivals (decodeState n) = [] := by
  unfold decodeState
  split <;> rfl

theorem arrivals_decodeHost {w : Nat} {i : Instr} (d : decodeHost w = .ok i) : arrivals i = [] := by
  unfold decodeHost at d
  split_ifs at d <;> cases d <;> rfl

theorem arrivals_decodeCrc (op : Nat) (din : Byte) : arrivals (decodeCrc op din) = [] := by
  unfold decodeCrc
  split <;> rfl

theorem arrivals_decodeTx {pos : TxPos} {b : Byte} {i : Instr} (d : decodeTx pos b = .ok i) : arrivals i = [] := by
  unfold decodeTx at d
  split at d
  case h_2 | h_8 => split at d <;> cases d; rfl
  all_goals cases d; rfl

theorem arrivals_decodeRx (b : Byte) : arrivals (decodeRx b) = [.byte b] := by
  unfold decodeRx
  split
  next h => rw [h]; rfl
  · split
    next h => rw [h]; rfl
    · rfl

/-- Only a word on the receiving lane brings a byte, and it is the byte the word encodes. -/
theorem arrivals_decode {l : Lane} {w : Nat} {i : Instr} (d : decode l w = .ok i) :
    arrivals i = [] ∨ ∃ b : Byte, arrivals i = [.byte b] ∧ l = .rx ∧ w = b.toNat := by
  cases l <;> simp only [decode] at d
  case hcmd => exact .inl (arrivals_decodeHost d)
  all_goals split at d <;> [skip; cases d]
  case st => cases d; exact .inl (arrivals_decodeState w)
  case crcOp => cases d; exact .inl (arrivals_decodeCrc ..)
  case tx => exact .inl (arrivals_decodeTx d)
  case rx hw =>
    cases d
    exact .inr ⟨_, arrivals_decodeRx _, rfl, (Nat.mod_eq_of_lt hw).symm⟩

/-- Every instruction makes at most one read, of the stream with what it brings behind it. -/
theorem exec_oneRead {i : Instr} {s t : State} (e : exec i s = .next t) :
    OneReadLeaves s.params.idleMax (s.rx ++ arrivals i) t.rx := by
  cases i
  case rxAck | rxGoC | rxOther => exact State.receive_oneRead e
  all_goals simp only [arrivals, List.append_nil]
  case go => exact State.readGo_oneRead e
  case ackWait => exact State.readAck_oneRead e
  case eotWait => exact State.readEot_oneRead e
  all_goals apply OneReadLeaves.of_eq
  case data => exact State.sendData_rx e
  case txData => exact State.sendData_rx (sentOnly_next e).2
  case txMenuUpload | txSoh | txBlknum | txBlkcmp | txCrcHi | txCrcLo | txEot =>
    obtain ⟨-, e⟩ := sentOnly_next e
    cases e; simp
  case start => rw [execStart_next e, State.startSession_rx]
  all_goals cases e
  case req | hdrSoh | hdrNum | hdrCmp | crcHi | crcLo | prog | eotTx => simp
  case idle | doneOk | doneErr | readStatus | crcHold | crcClear | crcUpdate => rfl

/-- A command of the CRCU that stands alone makes no read but its instruction's own. -/
theorem State.runAlone_oneRead {i : Instr} {s t : State} (e : s.runAlone i = .next t) :
    OneReadLeaves s.params.idleMax (s.rx ++ arrivals i) t.rx := by
  unfold State.runAlone at e
  split at e
  next h =>
    cases e
    exact (exec_oneRead h :)
  · cases e
  · cases e

/-- A turn makes at most one read, of the stream with the received byte behind it. -/
theorem State.runTurn_oneRead {s t : State} {turn : Turn} (e : s.runTurn turn = .next t) :
    ∃ arrived : List RxItem, (arrived = [] ∨ ∃ b : Byte, arrived = [.byte b] ∧ turn = .word .rx b.toNat) ∧
      OneReadLeaves s.params.idleMax (s.rx ++ arrived) t.rx := by
  cases turn with
  | xfsm => exact ⟨_, .inl (arrivals_decodeState _), exec_oneRead e⟩
  | word l w =>
    obtain ⟨i, d, e⟩ := State.runWord_next e
    refine ⟨arrivals i, ?_, e.elim State.runAlone_oneRead exec_oneRead⟩
    rcases arrivals_decode d with h | ⟨b, h, rfl, rfl⟩
    · exact .inl h
    · exact .inr ⟨b, h, rfl⟩
  | reset => cases e; exact ⟨[], .inl rfl, .of_eq (by simp)⟩
  | imageWrite a b =>
    simp only [State.runTurn] at e
    split at e
    · cases e
    · cases e; exact ⟨[], .inl rfl, .of_eq (by simp)⟩

/-! ### One byte sent -/

/-- A move leaves the TX line, or puts one byte on it and leaves the RX stream. -/
theorem Move.tx_cases {s t : State} (m : Move s t) : t.tx = s.tx ∨ ∃ b, t.tx = s.tx ++ [b] ∧ t.rx = s.rx := by
  cases m
  case menu | soh | blkNum | blkCmp | data | crcHi | crcLo | eot => exact .inr ⟨_, rfl, rfl⟩
  case prog => exact .inl s.progress_tx
  all_goals exact .inl rfl

theorem step_tx_cases {s t : State} (e : step s = .next t) : t.tx = s.tx ∨ ∃ b, t.tx = s.tx ++ [b] ∧ t.rx = s.rx := by
  rcases step_moves e with ⟨-, rfl⟩ | ⟨-, -, m⟩
  · exact .inl rfl
  · exact m.tx_cases

/-- Settles O50: `step_tx_cases` gives the bytes sent, `State.runTurn_oneRead` the arrival and the one read. -/
theorem oneByteOrOneReadPerStep : Obligations.OneByteOrOneReadPerStep := by
  intro s t e
  obtain ⟨arrived, harrived, hread⟩ := State.runTurn_oneRead (step_runTurn e)
  rcases step_tx_cases e with htx | ⟨b, htx, hrx⟩
  · exact ⟨[], arrived, by simp, by simp [htx], by simp, harrived, hread⟩
  · exact ⟨[b], arrived, by simp, htx, fun _ => hrx, harrived, hread⟩

end Sys2Proof.Machine
end

section
/-! SUPPORT. BUSY and the reserved codes as facts about the registers (10_state R33, R35), and the fields that PROG and the
confirmed end of a session leave unchanged (41_xmodem_engine R131, R133). -/

namespace Sys2Proof.Machine

/-! ### BUSY and the reserved codes -/

theorem State.isBusy_iff (s : State) : s.isBusy = true ↔ s.st ≠ stIdle ∧ s.st ≠ stDoneOk ∧ s.st ≠ stDoneErr := by
  simp [State.isBusy, and_assoc]

/-- BUSY = 1 at every control position but the three resting ones (R33). -/
theorem State.isBusy_of_st {s : State} {c : StCode} (e : s.st = c)
    (hc : c ≠ stIdle ∧ c ≠ stDoneOk ∧ c ≠ stDoneErr := by decide) : s.isBusy = true :=
  s.isBusy_iff.2 (e ▸ hc)

/-- Where BUSY = 0, ST is no state of a session (R33). -/
theorem State.st_ne_of_rest {s : State} {c : StCode} (hs : s.isBusy = false)
    (hc : c ≠ stIdle ∧ c ≠ stDoneOk ∧ c ≠ stDoneErr := by decide) : s.st ≠ c :=
  fun e => Bool.eq_false_iff.1 hs (State.isBusy_of_st e hc)

theorem State.reservedCode_eq_false_iff (s : State) :
    s.reservedCode = false ↔ s.st ≠ stReserved ∧ s.res.toNat ≤ 8 ∧ s.resPhase.toNat ≤ 4 := by
  simp only [State.reservedCode, Bool.or_eq_false_iff, beq_eq_false_iff_ne, decide_eq_false_iff_not, not_le,
    Nat.lt_succ_iff, and_assoc]

/-! ### What PROG leaves unchanged (R131) -/

section
variable (s : State)

@[simp] theorem State.progress_len : s.progress.len = s.len := by unfold State.progress; split <;> rfl
@[simp] theorem State.progress_nblk : s.progress.nblk = s.nblk := by unfold State.progress; split <;> rfl
@[simp] theorem State.progress_k : s.progress.k = s.k := by unfold State.progress; split <;> rfl
@[simp] theorem State.progress_crc : s.progress.crc = s.crc := by unfold State.progress; split <;> rfl
@[simp] theorem State.progress_res : s.progress.res = s.res := by unfold State.progress; split <;> rfl
@[simp] theorem State.progress_resPhase : s.progress.resPhase = s.resPhase := by unfold State.progress; split <;> rfl
@[simp] theorem State.progress_resIdx : s.progress.resIdx = s.resIdx := by unfold State.progress; split <;> rfl
@[simp] theorem State.progress_image : s.progress.image = s.image := by unfold State.progress; split <;> rfl
@[simp] theorem State.progress_params : s.progress.params = s.params := by unfold State.progress; split <;> rfl

theorem State.progress_idx : s.progress.idx = s.idx ∨ s.progress.idx = s.idx + 1 := by
  unfold State.progress
  split
  · exact .inl rfl
  · exact .inr rfl

end

/-! ### What the end of a confirmed session leaves unchanged (R133) -/

section
variable (s : State)

@[simp] theorem State.succeed_len : s.succeed.len = s.len := rfl
@[simp] theorem State.succeed_nblk : s.succeed.nblk = s.nblk := rfl
@[simp] theorem State.succeed_idx : s.succeed.idx = s.idx := rfl
@[simp] theorem State.succeed_k : s.succeed.k = s.k := rfl
@[simp] theorem State.succeed_crc : s.succeed.crc = s.crc := rfl
@[simp] theorem State.succeed_resPhase : s.succeed.resPhase = s.resPhase := rfl
@[simp] theorem State.succeed_resIdx : s.succeed.resIdx = s.resIdx := rfl
@[simp] theorem State.succeed_pcnt : s.succeed.pcnt = s.pcnt := rfl
@[simp] theorem State.succeed_image : s.succeed.image = s.image := rfl
@[simp] theorem State.succeed_params : s.succeed.params = s.params := rfl

end

end Sys2Proof.Machine
end

section
/-! SUPPORT. The invariants (10_state R37): what they ask of a running session, and that every move keeps it. -/

namespace Sys2Proof.Machine

/-! ### A running session -/

/-- The states of a session, phase by phase. -/
theorem stCode_phases : ∀ c : StCode, c ≠ stIdle → c ≠ stDoneOk → c ≠ stDoneErr → c ≠ stReserved →
    (c = stReq ∨ c = stGo) ∨ c = stHdrSoh ∨ (c = stHdrNum ∨ c = stHdrCmp) ∨ c = stData ∨
      (c = stCrcHi ∨ c = stCrcLo ∨ c = stAckWait ∨ c = stProg) ∨ (c = stEotTx ∨ c = stEotWait) := by decide

/-- What the invariants ask of IDX, K and PCNT at each control position of a running session, one disjunct a phase
(R24, R25, R30, R37 c and d). -/
def State.Position (s : State) : Prop :=
  ((s.st = stReq ∨ s.st = stGo) ∧ s.pcnt + 1 = s.idx ∧ s.idx = 1) ∨
  (s.st = stHdrSoh ∧ s.pcnt + 1 = s.idx) ∨
  ((s.st = stHdrNum ∨ s.st = stHdrCmp) ∧ s.pcnt + 1 = s.idx ∧ s.k = 0) ∨
  (s.st = stData ∧ s.pcnt + 1 = s.idx ∧ s.k.toNat ≤ 127) ∨
  ((s.st = stCrcHi ∨ s.st = stCrcLo ∨ s.st = stAckWait ∨ s.st = stProg) ∧ s.pcnt + 1 = s.idx ∧ s.k.toNat = 128) ∨
  ((s.st = stEotTx ∨ s.st = stEotWait) ∧ s.pcnt = s.nblk ∧ s.idx = s.nblk)

/-- The part of the state that no step of a running session writes but the one that ends it (R22, R23, R39, R64, R183). -/
def State.settled (s : State) : Nat × Nat × Memory × Params × ResCode × PhaseCode × Nat :=
  (s.len, s.nblk, s.image, s.params, s.res, s.resPhase, s.resIdx)

/-- What the invariants ask of the settled part of a running session. -/
structure State.SessionBase (s : State) : Prop where
  result : s.res = resBusy ∧ s.resPhase = phNa ∧ s.resIdx = 0
  length : 1 ≤ s.len ∧ s.len ≤ s.params.maxImageLen
  blocks : s.nblk = blocksOf s.len
  loaded : imageLoaded s.image s.len = true
  imageForm : s.image.wf = true
  paramsLegal : s.params.Legal

theorem State.SessionBase.of_settled {s t : State} (h : s.SessionBase) (e : t.settled = s.settled) : t.SessionBase := by
  simp only [State.settled, Prod.mk.injEq] at e
  obtain ⟨elen, enblk, eimage, eparams, eres, ephase, eidx⟩ := e
  constructor <;> simp only [elen, enblk, eimage, eparams, eres, ephase, eidx]
  exacts [h.result, h.length, h.blocks, h.loaded, h.imageForm, h.paramsLegal]

theorem State.Position.isBusy {s : State} (h : s.Position) : s.isBusy = true := by
  rcases h with ⟨e | e, -⟩ | ⟨e, -⟩ | ⟨e | e, -⟩ | ⟨e, -⟩ | ⟨e | e | e | e, -⟩ | ⟨e | e, -⟩ <;>
    exact State.isBusy_of_st e

theorem State.inBody_iff (s : State) : s.inBody = true ↔
    (s.st = stReq ∨ s.st = stGo) ∨ s.st = stHdrSoh ∨ (s.st = stHdrNum ∨ s.st = stHdrCmp) ∨ s.st = stData ∨
      (s.st = stCrcHi ∨ s.st = stCrcLo ∨ s.st = stAckWait ∨ s.st = stProg) := by
  have all : ∀ c : StCode, decide (1 ≤ c.toNat ∧ c.toNat ≤ 10) = true ↔
    (c = stReq ∨ c = stGo) ∨ c = stHdrSoh ∨ (c = stHdrNum ∨ c = stHdrCmp) ∨ c = stData ∨
      (c = stCrcHi ∨ c = stCrcLo ∨ c = stAckWait ∨ c = stProg) := by decide
  exact all s.st

theorem State.inClosing_iff (s : State) : s.inClosing = true ↔ s.st = stEotTx ∨ s.st = stEotWait := by
  simp [State.inClosing]

theorem State.Inv.sessionBase {s : State} (h : s.Inv) (hb : s.isBusy = true) : s.SessionBase := by
  obtain ⟨hres, hlen, -⟩ := h.rule37.b hb
  obtain ⟨hmax, hloaded⟩ := h.loaded hb
  exact ⟨⟨hres, h.noAbortYet hb⟩, ⟨hlen, hmax⟩, h.blocks, hloaded, h.imageForm, h.paramsLegal⟩

theorem State.Inv.position {s : State} (h : s.Inv) (hb : s.isBusy = true) : s.Position := by
  obtain ⟨hidle, hok, herr⟩ := s.isBusy_iff.1 hb
  obtain ⟨hlegal, -⟩ := s.reservedCode_eq_false_iff.1 h.legal
  have body := fun e => h.bodyCount (s.inBody_iff.2 e)
  rcases stCode_phases _ hidle hok herr hlegal with e | e | e | e | e | e
  · exact .inl ⟨e, body (.inl e), h.opening e⟩
  · exact .inr (.inl ⟨e, body (.inr (.inl e))⟩)
  · exact .inr (.inr (.inl ⟨e, body (.inr (.inr (.inl e))), h.header e⟩))
  · exact .inr (.inr (.inr (.inl ⟨e, body (.inr (.inr (.inr (.inl e)))), h.rule37.c e⟩)))
  · exact .inr (.inr (.inr (.inr (.inl ⟨e, body (.inr (.inr (.inr (.inr e)))), h.rule37.d e⟩))))
  · exact .inr (.inr (.inr (.inr (.inr ⟨e, h.closingCount (s.inClosing_iff.2 e)⟩))))

/-- A running session meets the invariants when its settled part, the bounds of IDX and its control position do. -/
theorem State.SessionBase.inv {s : State} (h : s.SessionBase) (hidx : 1 ≤ s.idx ∧ s.idx ≤ s.nblk) (hp : s.Position) :
    s.Inv := by
  obtain ⟨hres, hphase, hrec⟩ := h.result
  have hb := hp.isBusy
  obtain ⟨hidle, hok, herr⟩ := s.isBusy_iff.1 hb
  have hg : s.pcnt ≤ s.idx := by unfold State.Position at hp; omega
  refine ⟨⟨?a, ?b, ?c, ?d, ?e, ?f, hg⟩, ?legal, h.blocks, ?opening, ?noAbort, ?body, ?closing, ?header, ?loaded,
    h.imageForm, h.paramsLegal⟩
  case a => simp +decide [hidle, hres]
  case b => exact fun _ => ⟨hres, h.length.1, hidx⟩
  case c => intro e; simp +decide [State.Position, e] at hp; omega
  case d => rintro (e | e | e | e) <;> simp +decide [State.Position, e] at hp <;> omega
  case e => exact fun e => absurd e hok
  case f => exact fun e => absurd e herr
  case legal =>
    have : s.st ≠ stReserved := by intro e; simp +decide [State.Position, e] at hp
    exact s.reservedCode_eq_false_iff.2 ⟨this, by rw [hres]; decide, by rw [hphase]; decide⟩
  case opening => rintro (e | e) <;> simp +decide [State.Position, e] at hp <;> omega
  case noAbort => exact fun _ => ⟨hphase, hrec⟩
  case body =>
    intro hbody
    have hopen : ¬ (s.st = stEotTx ∨ s.st = stEotWait) := by
      rintro (e | e) <;> simp +decide [State.inBody, e] at hbody
    rcases hp with ⟨-, h⟩ | ⟨-, h⟩ | ⟨-, h⟩ | ⟨-, h⟩ | ⟨-, h⟩ | ⟨e, -⟩
    exacts [h.1, h, h.1, h.1, h.1, absurd e hopen]
  case closing =>
    intro e
    rcases s.inClosing_iff.1 e with e | e <;> simp +decide [State.Position, e] at hp <;> exact hp
  case header => rintro (e | e) <;> simp +decide [State.Position, e] at hp <;> exact hp.2
  case loaded => exact fun _ => ⟨h.length.2, h.loaded⟩

/-- A step from one control position of a session to the next keeps the invariants. -/
theorem State.Inv.advance {s t : State} (h : s.Inv) (hb : s.isBusy = true) (hset : t.settled = s.settled)
    (hidx : t.idx = s.idx) (hp : s.Position → t.Position) : t.Inv := by
  have hn : t.nblk = s.nblk := congrArg (fun c => c.2.1) hset
  obtain ⟨-, -, hbound⟩ := h.rule37.b hb
  exact ((h.sessionBase hb).of_settled hset).inv (by rw [hidx, hn]; exact hbound) (hp (h.position hb))

/-! ### Outside a session -/

/-- Where BUSY = 0 the invariants ask for the result of the state, legal codes, the block count and PCNT at most IDX. -/
theorem State.inv_of_rest {s : State} (hb : s.isBusy = false) (a : s.st = stIdle ↔ s.res = resNone)
    (e : s.st = stDoneOk → s.res = resSuccess ∧ s.pcnt = s.nblk) (f : s.st = stDoneErr → isAbortCode s.res = true)
    (g : s.pcnt ≤ s.idx) (legal : s.reservedCode = false) (blocks : s.nblk = blocksOf s.len)
    (imageForm : s.image.wf = true) (paramsLegal : s.params.Legal) : s.Inv := by
  refine ⟨⟨a, ?b, ?c, ?d, e, f, g⟩, legal, blocks, ?opening, ?noAbort, ?body, ?closing, ?header, ?loaded, imageForm,
    paramsLegal⟩
  case b | noAbort | loaded => exact fun h => absurd h (Bool.eq_false_iff.1 hb)
  case c => exact fun h => absurd h (State.st_ne_of_rest hb)
  case d => rintro (h | h | h | h) <;> exact absurd h (State.st_ne_of_rest hb)
  case opening | header => rintro (h | h) <;> exact absurd h (State.st_ne_of_rest hb)
  case body =>
    intro h
    rcases s.inBody_iff.1 h with (h | h) | h | (h | h) | h | (h | h | h | h) <;> exact absurd h (State.st_ne_of_rest hb)
  case closing =>
    intro h
    rcases s.inClosing_iff.1 h with h | h <;> exact absurd h (State.st_ne_of_rest hb)

/-- The ten reset values of R36, in R20's order. -/
def resetValues : StCode × Nat × Nat × Nat × BitVec 8 × Remainder × ResCode × PhaseCode × Nat × Nat :=
  (0x0, 0, 0, 0, 0, 0x0000, 0x0, 0, 0, 0)

/-- The reset values meet the invariants (R36, R37). -/
theorem State.inv_of_resetValues {s : State} (h : s.registers = resetValues) (imageForm : s.image.wf = true)
    (paramsLegal : s.params.Legal) : s.Inv := by
  simp only [State.registers, resetValues, Prod.mk.injEq] at h
  obtain ⟨hst, hlen, hnblk, hidx, -, -, hres, hphase, -, hpcnt⟩ := h
  refine State.inv_of_rest ?_ ?_ ?_ ?_ ?_ ?_ ?_ imageForm paramsLegal <;>
    simp +decide [State.isBusy, State.reservedCode, hst, hlen, hnblk, hidx, hres, hphase, hpcnt]

/-- Every abort is raised in a session (R181). -/
theorem State.AbortRow.isBusy {s : State} {r : ResCode} {p : PhaseCode} {i : Nat} (h : s.AbortRow r p i) :
    s.isBusy = true := by
  rcases h with ⟨e, -⟩ | ⟨e, -⟩ | ⟨e | e | e | e | e | e, -⟩ | ⟨e, -⟩ | ⟨e, -⟩ | ⟨e, -⟩ <;>
    exact State.isBusy_of_st e

/-- Every abort records an abort code and a legal phase (R74, R75, R181). -/
theorem State.AbortRow.codes {s : State} {r : ResCode} {p : PhaseCode} {i : Nat} (h : s.AbortRow r p i) :
    isAbortCode r = true ∧ p.toNat ≤ 4 := by
  rcases h with ⟨-, rfl, rfl, -⟩ | ⟨-, rfl | rfl | rfl, rfl, -⟩ | ⟨-, rfl, rfl, -⟩ | ⟨-, rfl, rfl, -⟩ | ⟨-, rfl, rfl, -⟩ |
    ⟨-, rfl | rfl, rfl, -⟩ <;> decide

/-- An abort keeps the invariants (R183). -/
theorem State.Inv.abort {s : State} {r : ResCode} {p : PhaseCode} {i : Nat} (h : s.Inv) (row : s.AbortRow r p i) :
    (s.abort r p i).Inv := by
  obtain ⟨hr, hp⟩ := row.codes
  have hr' : 3 ≤ r.toNat ∧ r.toNat ≤ 8 := by simpa [isAbortCode] using hr
  have hnone : r ≠ resNone := by rintro rfl; simp +decide at hr
  apply State.inv_of_rest
  case a => simp +decide [hnone]
  case e => simp +decide
  case f => exact fun _ => hr
  case g => exact h.rule37.g
  case legal => exact (State.reservedCode_eq_false_iff _).2 ⟨(by decide : stDoneErr ≠ stReserved), hr'.2, hp⟩
  case blocks => exact h.blocks
  case imageForm => exact h.imageForm
  case paramsLegal => exact h.paramsLegal
  case hb => rfl

/-- The end of a confirmed session keeps the invariants (R133). -/
theorem State.Inv.succeed {s : State} (h : s.Inv) (e : s.st = stEotWait) : s.succeed.Inv := by
  have hcount := h.closingCount (s.inClosing_iff.2 (.inr e))
  apply State.inv_of_rest
  case a => simp +decide [State.succeed]
  case e => exact fun _ => ⟨rfl, hcount.1⟩
  case f => simp +decide [State.succeed]
  case g => exact h.rule37.g
  case legal =>
    obtain ⟨-, -, hphase⟩ := s.reservedCode_eq_false_iff.1 h.legal
    exact (State.reservedCode_eq_false_iff _).2
      ⟨(by decide : stDoneOk ≠ stReserved), (by decide : resSuccess.toNat ≤ 8), hphase⟩
  case blocks => exact h.blocks
  case imageForm => exact h.imageForm
  case paramsLegal => exact h.paramsLegal
  case hb => rfl

/-- The invariants speak of the registers, the image and the parameters alone, and of a loaded image only while BUSY. -/
theorem State.Inv.of_registers {s t : State} (h : s.Inv) (hr : t.registers = s.registers) (hp : t.params = s.params)
    (hi : s.isBusy = true → t.image = s.image) (hf : t.image.wf = true) : t.Inv := by
  obtain ⟨_, _, _, _, _, _, _, _, _, _, _, _, _, _, _, _, _, _, _⟩ := s
  obtain ⟨_, _, _, _, _, _, _, _, _, _, _, _, _, _, _, _, _, _, _⟩ := t
  simp only [State.registers, Prod.mk.injEq] at hr
  obtain ⟨rfl, rfl, rfl, rfl, rfl, -, rfl, rfl, rfl, rfl⟩ := hr
  obtain rfl := hp
  refine ⟨⟨h.rule37.a, h.rule37.b, h.rule37.c, h.rule37.d, h.rule37.e, h.rule37.f, h.rule37.g⟩, h.legal, h.blocks,
    h.opening, h.noAbortYet, h.bodyCount, h.closingCount, h.header, fun hb => ?_, hf, h.paramsLegal⟩
  obtain rfl := hi hb
  exact h.loaded hb

/-! ### Every move, every step -/

/-- A START accepted outside a session begins one that meets the invariants (R100, R102, R202). -/
theorem State.Inv.startSession {s : State} (h : s.Inv) {n : Nat} (h1 : 1 ≤ n) (hm : n ≤ s.params.maxImageLen)
    (hl : imageLoaded s.image n = true) : (s.startSession n).Inv := by
  have base : (s.startSession n).SessionBase :=
    ⟨⟨rfl, rfl, rfl⟩, ⟨h1, hm⟩, rfl, hl, h.imageForm, h.paramsLegal⟩
  refine base.inv ⟨le_refl 1, ?_⟩ (.inl ⟨.inl rfl, rfl, rfl⟩)
  simp only [State.startSession_idx, State.startSession_nblk, blocksOf, blockSize]
  omega

/-- DATA's K after a payload byte: K + 1, which the register holds (R127). -/
theorem toNat_kSucc {k : BitVec 8} (h : k.toNat ≤ 127) : (BitVec.ofNat 8 (k.toNat + 1)).toNat = k.toNat + 1 := by
  rw [BitVec.toNat_ofNat]; omega

/-- DATA's writes lead to DATA with K at most 127, or to CRC_HI with K = 128 (R127). -/
theorem State.Position.foldData {s : State} (h : s.Position) (e : s.st = stData) (b : Byte) :
    (s.foldData b).Position := by
  simp +decide [State.Position, e] at h
  obtain ⟨hcount, hk⟩ := h
  have hk' := toNat_kSucc hk
  by_cases hlast : s.k.toNat + 1 = blockSize
  · refine .inr (.inr (.inr (.inr (.inl ⟨.inl ?_, hcount, ?_⟩))))
    · simp [hlast]
    · rw [State.foldData_k, hk', hlast]; rfl
  · refine .inr (.inr (.inr (.inl ⟨?_, hcount, ?_⟩)))
    · simp [hlast]
    · rw [State.foldData_k, hk']; simp only [blockSize] at hlast; omega

/-- PROG keeps the invariants: after the last block the closing counts hold, else the next block begins (R131). -/
theorem State.Inv.progress {s : State} (h : s.Inv) (e : s.st = stProg) : s.progress.Inv := by
  have hb : s.isBusy = true := State.isBusy_of_st e
  have base := h.sessionBase hb
  obtain ⟨-, -, hone, hle⟩ := h.rule37.b hb
  have hcount : s.pcnt + 1 = s.idx := h.bodyCount (by rw [State.inBody, e]; rfl)
  unfold State.progress
  split
  next hlast =>
    have hpcnt : s.pcnt + 1 = s.nblk := hcount.trans hlast
    exact State.SessionBase.inv (base.of_settled rfl) ⟨hone, hle⟩
      (.inr (.inr (.inr (.inr (.inr ⟨.inl rfl, hpcnt, hlast⟩)))))
  next hmore =>
    refine State.SessionBase.inv (base.of_settled rfl) ⟨?_, ?_⟩ (.inr (.inl ⟨rfl, congrArg Nat.succ hcount⟩))
    · exact Nat.le_add_left 1 s.idx
    · exact Nat.lt_of_le_of_ne hle hmore

/-- Every move keeps the invariants. -/
theorem Move.keeps_inv {s t : State} (m : Move s t) (h : s.Inv) : t.Inv := by
  cases m
  case rest => exact h
  case report | alone | arrive => exact h.of_registers rfl rfl (fun _ => rfl) h.imageForm
  case imageWrite a b hb =>
    exact h.of_registers rfl rfl (absurd · (Bool.eq_false_iff.1 hb)) (s.image.wf_write a b h.imageForm)
  case start n hb h1 hm hl => exact h.startSession h1 hm hl
  case sendAbort r p i row =>
    exact State.Inv.abort (h.of_registers rfl rfl (fun _ => rfl) h.imageForm) row
  case readAbort q r p i row =>
    exact State.Inv.abort (h.of_registers rfl rfl (fun _ => rfl) h.imageForm) row
  case confirm q e =>
    exact State.Inv.succeed (h.of_registers rfl rfl (fun _ => rfl) h.imageForm) e
  case prog e => exact h.progress e
  case data b e _ =>
    exact h.advance (State.isBusy_of_st e) rfl rfl fun hp => State.Position.foldData hp e b
  case menu e | soh e | blkNum e | blkCmp e | crcHi e | crcLo e | eot e | go e | ack e =>
    refine h.advance (State.isBusy_of_st e) rfl rfl fun hp => ?_
    simp +decide [State.Position, e] at hp ⊢
    bv_omega

/-- A reset restores R36's values; any other step is a move. -/
theorem step_keeps_inv {s t : State} (h : s.Inv) (e : step s = .next t) : t.Inv := by
  have hdrop : s.dropTurn.Inv := h.of_registers rfl rfl (fun _ => rfl) h.imageForm
  rcases step_moves e with ⟨-, rfl⟩ | ⟨-, -, m⟩
  · exact State.inv_of_resetValues rfl h.imageForm h.paramsLegal
  · exact m.keeps_inv hdrop

/-- Settles O45: `step_moves` gives the reset or the move, `Move.keeps_inv` keeps the invariants. -/
theorem everyStepKeepsInvariants : Obligations.EveryStepKeepsInvariants :=
  fun _ _ h e => step_keeps_inv h e

/-- Settles O44: at power-on the registers hold the reset values, the image is empty. -/
theorem invariantsHoldAtReset : Obligations.InvariantsHoldAtReset :=
  State.inv_of_resetValues rfl rfl ⟨by decide, by decide⟩

end Sys2Proof.Machine
end

section
/-! SUPPORT. Turns (10_state R32, R35, R36): what a step runs, which words the host's and the wires' turns accept, what a reset
writes. -/

namespace Sys2Proof.Machine

/-! ### What a step runs -/

/-- Where no reserved code stands, a step is the move of its turn. -/
theorem step_of_legal {s : State} (h : s.reservedCode = false) : step s = s.dropTurn.runTurn s.nextTurn := by
  simp [step, State.runStep, h]

/-- A reset's turn runs in every state (R103). -/
theorem step_of_reset {s : State} (h : s.nextTurn = .reset) : step s = .next s.dropTurn.resetRegs := by
  simp [step, State.runStep, State.runTurn, h]

/-- A state code's word on its own lane decodes to the instruction ST selects (R32, R71). -/
theorem decode_st (s : State) : decode .st s.st.toNat = .ok s.xfsmInstr := by
  simp only [decode, s.st.isLt, if_true, State.xfsmInstr]

/-- A word of the CRC lane decodes to the command of its two fields (R73). -/
theorem decode_crc_ok {w : Nat} {i : Instr} (d : decode .crcOp w = .ok i) :
    i = decodeCrc (w / 256) (BitVec.ofNat 8 w) := by
  simp only [decode] at d
  split at d <;> cases d
  rfl

/-- A word of a transmitting lane decodes as the byte at its position (R81). -/
theorem decode_tx_ok {pos : TxPos} {w : Nat} {i : Instr} (d : decode (.tx pos) w = .ok i) :
    decodeTx pos (BitVec.ofNat 8 w) = .ok i := by
  simp only [decode] at d
  split at d
  · exact d
  · cases d

/-- A word of the receiving lane decodes as its byte (R82). -/
theorem decode_rx_ok {w : Nat} {i : Instr} (d : decode .rx w = .ok i) : i = decodeRx (BitVec.ofNat 8 w) := by
  simp only [decode] at d
  split at d <;> cases d
  rfl

/-- A word runs the instruction it decodes to, off the CRC lane (log 13). -/
theorem State.runWord_of_ok {s : State} {l : Lane} {w : Nat} {i : Instr} (d : decode l w = .ok i) (hl : l ≠ .crcOp)
    (hst : l = .st → w = s.st.toNat) : s.runWord l w = exec i s := by
  have : ¬ (l = .st ∧ w ≠ s.st.toNat) := fun ⟨h, hw⟩ => hw (hst h)
  simp [State.runWord, this, d, hl]

/-- A CRC word runs on the CRCU that stands alone (log 10). -/
theorem State.runWord_crc {s : State} {w : Nat} {i : Instr} (d : decode .crcOp w = .ok i) :
    s.runWord .crcOp w = s.runAlone i := by
  simp [State.runWord, d]

theorem State.runAlone_of_next {s t : State} {i : Instr} (e : exec i (s.setCrc s.aloneCrc) = .next t) :
    s.runAlone i = .next ((t.setAloneCrc t.crc).setCrc s.crc) := by
  simp only [State.runAlone, e]

theorem State.runAlone_of_refused {s : State} {i : Instr} {r : Refusal}
    (e : exec i (s.setCrc s.aloneCrc) = .refused r) : s.runAlone i = .refused r := by
  simp only [State.runAlone, e]

/-- A state code that ST does not hold is refused (R21, R35; log 13). -/
theorem State.runWord_of_other_st {s : State} {w : Nat} (hw : w ≠ s.st.toNat) :
    s.runWord .st w = .refused .stateNotSelected := by
  simp [State.runWord, hw]

/-- A word that is no encoding of its lane's format is refused (log 13). -/
theorem State.runWord_of_error {s : State} {l : Lane} {w : Nat} {e : DecodeError} (hl : l ≠ .st)
    (d : decode l w = .error e) : s.runWord l w = .refused (.noSuchWord e) := by
  simp [State.runWord, hl, d]

/-- Settles O42: `step_of_legal` gives the turn, the lemmas on `State.runWord` what each word runs. -/
theorem stepRunsDecodedInstruction : Obligations.StepRunsDecodedInstruction := by
  intro s hlegal
  have hstep : ∀ {turn}, s.nextTurn = turn → step s = s.dropTurn.runTurn turn := by
    rintro _ rfl; exact step_of_legal hlegal
  refine ⟨?xfsm, ?word, ?crc, ?crcRefused, ?otherState, ?noWord⟩
  case xfsm =>
    intro i ht d
    obtain rfl : s.xfsmInstr = i := Except.ok.inj ((decode_st s).symm.trans d)
    exact hstep ht
  case word => exact fun l w i ht d hl hst => (hstep ht).trans (State.runWord_of_ok d hl hst)
  case crc => exact fun w i t ht d e => (hstep ht).trans ((State.runWord_crc d).trans (State.runAlone_of_next e))
  case crcRefused =>
    exact fun w i r ht d e => (hstep ht).trans ((State.runWord_crc d).trans (State.runAlone_of_refused e))
  case otherState => exact fun w ht hw => (hstep ht).trans (State.runWord_of_other_st hw)
  case noWord => exact fun l w e ht hl d => (hstep ht).trans (State.runWord_of_error hl d)

/-- Settles O43: a reset's turn is `State.resetRegs`. -/
theorem resetRestoresRegisters : Obligations.ResetRestoresRegisters :=
  ⟨rfl, fun _ h => ⟨_, step_of_reset h, rfl, rfl, rfl, rfl, rfl, rfl, rfl, rfl⟩⟩

/-! ### Who can write a register -/

/-- Of the host's commands START alone changes a register (R35, R101, R102). -/
theorem exec_host_registers {s t : State} {w : Nat} {i : Instr} (d : decodeHost w = .ok i) (e : exec i s = .next t) :
    (∃ n, w = 4 * n + 1 ∧ i = .start n) ∨ t.registers = s.registers := by
  unfold decodeHost at d
  split_ifs at d <;> cases d
  · exact .inl ⟨w / 4, by omega, rfl⟩
  · cases e
  · cases e; exact .inr rfl
  · cases e

/-- A word of the host's lane runs the command it decodes to. -/
theorem State.runWord_host {s t : State} {w : Nat} (e : s.runWord .hcmd w = .next t) :
    ∃ i, decodeHost w = .ok i ∧ exec i s = .next t := by
  obtain ⟨i, d, -⟩ := State.runWord_next e
  exact ⟨i, d, (State.runWord_of_ok d (by decide) (by simp)).symm.trans e⟩

/-- An image write changes no register. -/
theorem State.runTurn_imageWrite_registers {s t : State} {a : Nat} {b : Byte}
    (e : s.runTurn (.imageWrite a b) = .next t) : t.registers = s.registers := by
  simp only [State.runTurn] at e
  split at e
  · cases e
  · cases e; rfl

/-- Settles O19: `exec_host_registers` on the host's lane, and an image write leaves the registers. -/
theorem hostWritesOnlyThroughStart : Obligations.HostWritesOnlyThroughStart := by
  intro s t e
  have hrun := step_runTurn e
  refine ⟨fun w ht hstart => ?_, fun a b ht => ?_⟩ <;> rw [ht] at hrun
  · obtain ⟨i, d, hexec⟩ := State.runWord_host hrun
    rcases exec_host_registers d hexec with ⟨n, -, rfl⟩ | h
    · exact absurd d (hstart n)
    · exact h
  · exact (State.runTurn_imageWrite_registers hrun :)

/-- Settles O53: a case analysis of `Move`; in a session LEN, NBLK and the image stay, and PROG alone moves IDX. -/
theorem sessionConstantsHold : Obligations.SessionConstantsHold := by
  intro s t e
  rcases step_moves e with ⟨hreset, rfl⟩ | ⟨-, -, m⟩
  · exact ⟨rfl, fun _ hne => absurd hreset hne⟩
  cases m
  case start h _ _ _ | imageWrite h => exact ⟨rfl, fun hb _ => absurd hb (Bool.eq_false_iff.1 h)⟩
  case prog h => exact ⟨by simp, fun _ _ => ⟨by simp, by simp, by simp, s.dropTurn.progress_idx.imp_right (⟨h, ·⟩)⟩⟩
  all_goals exact ⟨rfl, fun _ _ => ⟨rfl, rfl, rfl, .inl rfl⟩⟩

/-! ### The block leaves a resting state by START or reset only -/

/-- XFSM has no step in a resting state (R121, R134, R135; log 6). -/
theorem exec_xfsm_of_rest {s : State} (hs : s.isBusy = false) : exec s.xfsmInstr s = .next s := by
  have hst : s.st = stIdle ∨ s.st = stDoneOk ∨ s.st = stDoneErr := by
    simpa only [State.isBusy, Bool.not_eq_false', Bool.or_eq_true, beq_iff_eq, or_assoc] using hs
  rcases hst with e | e | e <;> rw [State.xfsmInstr, e] <;> rfl

/-- A transmitted row is accepted in the state that sends its byte alone (R81; log 11). -/
theorem exec_tx_sender {s t : State} {pos : TxPos} {b : Byte} {i : Instr} (d : decodeTx pos b = .ok i)
    (e : exec i s = .next t) : s.st = pos.sender := by
  cases pos <;> simp only [decodeTx] at d
  case soh | eot =>
    split at d
    · cases d; simpa using (sentOnly_next e).1
    · cases d
  all_goals
    cases d
    have h := (sentOnly_next e).1
    simp only [Bool.and_eq_true, beq_iff_eq] at h
    exact h.1

/-- Every byte is sent in a session (R81). -/
theorem sender_busy (pos : TxPos) : pos.sender ≠ stIdle ∧ pos.sender ≠ stDoneOk ∧ pos.sender ≠ stDoneErr := by
  cases pos <;> decide

/-- A received row is the arrival of the byte its word encodes (R82). -/
theorem exec_decodeRx (b : Byte) (s : State) : exec (decodeRx b) s = s.receive b := by
  unfold decodeRx
  split
  next h => rw [h]; rfl
  · split
    next h => rw [h]; rfl
    · rfl

/-- A byte that arrives outside a session stays on the stream (R205). -/
theorem State.receive_of_rest {s : State} (hs : s.isBusy = false) (b : Byte) :
    s.receive b = .next (s.setRx (s.rx ++ [.byte b])) := by
  have hgo : s.st ≠ stGo := State.st_ne_of_rest hs
  have hack : s.st ≠ stAckWait := State.st_ne_of_rest hs
  have heot : s.st ≠ stEotWait := State.st_ne_of_rest hs
  simp only [State.receive, hgo, hack, heot, if_false]

/-- Outside a session a word other than START leaves ST (R21, R35). -/
theorem State.runWord_st_of_rest {s t : State} {l : Lane} {w : Nat} (e : s.runWord l w = .next t)
    (hs : s.isBusy = false) : (∃ L, l = .hcmd ∧ w = 4 * L + 1) ∨ t.st = s.st := by
  obtain ⟨i, d, -⟩ := State.runWord_next e
  cases l
  case st =>
    obtain rfl : w = s.st.toNat := by
      by_contra hw
      cases (State.runWord_of_other_st hw).symm.trans e
    rw [State.runWord_of_ok (decode_st s) (by decide) fun _ => rfl, exec_xfsm_of_rest hs] at e
    cases e; exact .inr rfl
  case hcmd =>
    obtain ⟨i, d, e⟩ := State.runWord_host e
    rcases exec_host_registers d e with ⟨n, h, -⟩ | h
    · exact .inl ⟨n, rfl, h⟩
    · exact .inr (congrArg Prod.fst h)
  case crcOp =>
    rw [State.runWord_crc d, decode_crc_ok d] at e
    obtain ⟨c, rfl⟩ := State.runAlone_next e
    exact .inr rfl
  case tx pos =>
    rw [State.runWord_of_ok d (by simp) (by simp)] at e
    exact absurd (exec_tx_sender (decode_tx_ok d) e) (State.st_ne_of_rest hs (sender_busy pos))
  case rx =>
    rw [State.runWord_of_ok d (by decide) (by simp), decode_rx_ok d, exec_decodeRx, State.receive_of_rest hs] at e
    cases e; exact .inr rfl

/-- A step from rest that is neither START nor reset leaves ST (R121, R134, R135, R185). -/
theorem step_st_of_rest {s t : State} (e : step s = .next t) (hs : s.isBusy = false) (hr : s.nextTurn ≠ .reset)
    (hstart : ∀ L, s.nextTurn ≠ .word .hcmd (4 * L + 1)) : t.st = s.st := by
  have hrun := step_runTurn e
  have hs' : s.dropTurn.isBusy = false := hs
  generalize s.nextTurn = turn at hrun hr hstart
  cases turn with
  | xfsm =>
    obtain rfl := Host.Outcome.next.inj ((exec_xfsm_of_rest hs').symm.trans hrun)
    rfl
  | word l w =>
    rcases State.runWord_st_of_rest hrun hs' with ⟨L, rfl, rfl⟩ | h
    · exact absurd rfl (hstart L)
    · exact h
  | reset => exact absurd rfl hr
  | imageWrite a b => exact congrArg Prod.fst (State.runTurn_imageWrite_registers hrun)

/-- Settles O60: ST by `step_st_of_rest`, which also shuts out START's move; the other registers by a case analysis of
`Move`. -/
theorem registersHaveOnlyTheirWriters : Obligations.RegistersHaveOnlyTheirWriters := by
  intro s t e hr hstart
  have hrest := fun hs => step_st_of_rest e hs hr hstart
  have hst : t.st ≠ s.st → s.isBusy = true := fun hne => by
    by_contra hb
    exact hne (hrest (Bool.eq_false_iff.2 hb))
  rcases step_moves e with ⟨hreset, -⟩ | ⟨-, -, m⟩
  · exact absurd hreset hr
  cases m
  case start h _ _ _ =>
    have hreq : s.st = stReq := (hrest h).symm
    exact absurd (State.isBusy_of_st hreq) (Bool.eq_false_iff.1 h)
  case sendAbort row | readAbort row =>
    have hne : s.st ≠ stDoneErr := (s.isBusy_iff.1 row.isBusy).2.2
    exact ⟨rfl, rfl, hst, by simp [hne]⟩
  case prog h | confirm h | soh h | data h _ =>
    rw [State.dropTurn_st] at h
    exact ⟨by simp, by simp, hst, by simp [h]⟩
  all_goals exact ⟨rfl, rfl, hst, by simp⟩

end Sys2Proof.Machine
end

section
/-! SUPPORT. The frame of a block and the padded image (20_memory R52 to R54, 30_encoding R76). -/

namespace Sys2Proof.Machine

/-! ### The padded image -/

theorem paddedLen_eq (len : Nat) : paddedLen len = 128 * ((len + 127) / 128) := rfl

/-- Below LEN the padded image is the image (R52). -/
theorem padByte_of_lt {img : Memory} {len a : Nat} (h : a < len) : padByte img len a = img.read a := if_pos h

/-- From LEN on the padded image is the fill byte (R52). -/
theorem padByte_of_le {img : Memory} {len a : Nat} (h : len ≤ a) : padByte img len a = some fillByte :=
  if_neg (Nat.not_lt.2 h)

/-- Settles O7: PLEN rounds LEN up to a multiple of 128, and `padByte` has its two cases. -/
theorem paddingFillsTheLastBlock : Obligations.PaddingFillsTheLastBlock := by
  intro img len _
  have hlen := paddedLen_eq len
  exact ⟨⟨_, hlen⟩, by omega, fun m hm hle => by omega, by omega, fun a ha => padByte_of_lt ha,
    fun a ha _ => padByte_of_le ha⟩

/-! ### The payload and the frame of a block -/

@[simp] theorem length_payload (img : Memory) (len i : Nat) : (payload img len i).length = 128 := by
  simp [payload, blockSize]

/-- Payload byte k of block i is the padded image's byte at its address (R54). -/
theorem payload_getElem? {img : Memory} {len i k : Nat} {b : Byte} (hk : k < 128)
    (hb : padByte img len (dataAddr i k) = some b) : (payload img len i)[k]? = some b := by
  simp [payload, blockSize, hk, hb]

/-- One more payload byte. -/
theorem payload_take_succ {img : Memory} {len i k : Nat} {b : Byte} (hk : k < 128)
    (hb : padByte img len (dataAddr i k) = some b) :
    (payload img len i).take (k + 1) = (payload img len i).take k ++ [b] := by
  rw [List.take_add_one, payload_getElem? hk hb, Option.toList_some]

/-- A frame, its header written out (R76). -/
theorem frameBytes_eq_cons (img : Memory) (len i : Nat) :
    frameBytes img len i = sohByte :: blkField i :: cmpField i ::
      (payload img len i ++ [crcHiField (crc16 (payload img len i)), crcLoField (crc16 (payload img len i))]) := rfl

/-- Settles O4: `frameBytes_eq_cons` shows the header, and the payload has 128 bytes. -/
theorem frameLayout : Obligations.FrameLayout := by
  intro img len i
  rw [frameBytes_eq_cons]
  refine ⟨by simp, rfl, rfl, rfl, fun k hk b hb => ?_, payload img len i, length_payload .., rfl⟩
  rw [Nat.add_comm, List.getElem?_cons_succ, List.getElem?_cons_succ, List.getElem?_cons_succ,
    List.getElem?_append_left (by simpa using hk)]
  exact payload_getElem? hk hb

end Sys2Proof.Machine
end

section
/-! SUPPORT. The reads (20_memory R56, R57): what each returns from the model's stream, and what a waiting state and an arriving
byte make of it. -/

namespace Sys2Proof.Machine

/-! ### The idle-read -/

/-- An idle-read that finds a byte or a closing of the window replies with what it gathers. -/
theorem rxTakeIdle_eq_reply {max : Nat} {q : List RxItem} (hnil : q ≠ []) (hfail : ∀ r, q ≠ .fail :: r) :
    rxTakeIdle max q = .reply (rxCollect max q).1 (rxCollect max q).2 := by
  unfold rxTakeIdle
  split
  · exact absurd rfl hnil
  · exact absurd rfl (hfail _)
  · rfl

/-- A reply is what the idle-read gathers. -/
theorem rxTakeIdle_reply {max : Nat} {q rest : List RxItem} {bytes : List Byte}
    (h : rxTakeIdle max q = .reply bytes rest) : rxCollect max q = (bytes, rest) := by
  unfold rxTakeIdle at h
  split at h <;> cases h
  rfl

/-- The gathered bytes are the oldest ones, at most `max` of them; a closing of the window behind them is taken off. -/
theorem rxCollect_spec (max : Nat) (q : List RxItem) :
    (rxCollect max q).1.length ≤ max ∧
      (q = (rxCollect max q).1.map .byte ++ (rxCollect max q).2 ∨
        q = (rxCollect max q).1.map .byte ++ .idle :: (rxCollect max q).2) := by
  fun_induction rxCollect max q with
  | case1 | case2 | case3 | case4 => simp
  | case5 n b q ih => simpa using ih

/-- Fewer than `max` bytes before a closing of the window are gathered in full. -/
theorem rxCollect_closing {max : Nat} {bytes : List Byte} (h : bytes.length < max) (rest : List RxItem) :
    rxCollect max (bytes.map .byte ++ .idle :: rest) = (bytes, rest) := by
  induction bytes generalizing max with
  | nil => obtain ⟨n, rfl⟩ := Nat.exists_eq_add_one.2 h; rfl
  | cons b bytes ih =>
    obtain ⟨n, rfl⟩ := Nat.exists_eq_add_one_of_ne_zero (Nat.ne_zero_of_lt h)
    simp [rxCollect, ih (Nat.lt_of_succ_lt_succ h)]

/-- As many bytes as the read takes are gathered, whatever follows. -/
theorem rxCollect_full (bytes : List Byte) (rest : List RxItem) :
    rxCollect bytes.length (bytes.map .byte ++ rest) = (bytes, rest) := by
  induction bytes with
  | nil => rfl
  | cons b bytes ih => simp [rxCollect, ih]

/-- Settles O40: `rxCollect_spec` for every reply, `rxCollect_closing` and `rxCollect_full` for the replies that can be drawn. -/
theorem idleReadReturnsArrivals : Obligations.IdleReadReturnsArrivals := by
  intro max hmax
  refine ⟨fun q bytes rest h => ?reply, fun bytes rest h => ?closing, fun bytes rest h => ?full, fun _ => rfl, rfl⟩
  case reply => simpa [rxTakeIdle_reply h] using rxCollect_spec max q
  case closing =>
    rw [rxTakeIdle_eq_reply (by simp) (by cases bytes <;> simp), rxCollect_closing h]
  case full =>
    subst h
    obtain ⟨b, bytes, rfl⟩ := List.exists_cons_of_length_pos hmax
    rw [rxTakeIdle_eq_reply (by simp) (by simp), rxCollect_full]

/-! ### The byte read -/

/-- The byte read passes over closings of the idle window (R56). -/
theorem rxTakeByte_replicate_idle (n : Nat) (q : List RxItem) :
    rxTakeByte (List.replicate n .idle ++ q) = rxTakeByte q := by
  induction n with
  | zero => rfl
  | succ n ih => exact ih

/-- Settles O41: past the closings the oldest item decides. -/
theorem byteReadTakesTheOldest : Obligations.ByteReadTakesTheOldest := by
  intro n rest
  refine ⟨fun b => rxTakeByte_replicate_idle n _, rxTakeByte_replicate_idle n _, ?_⟩
  simpa [rxTakeByte] using rxTakeByte_replicate_idle n []

/-! ### A read that is never answered -/

theorem State.readGo_of_never {s : State} (h : rxTakeIdle s.params.idleMax s.rx = .never) :
    s.readGo = .fault .readNeverReturns := by
  simp only [State.readGo, h]

theorem State.readAck_of_never {s : State} (h : rxTakeByte s.rx = .never) : s.readAck = .fault .readNeverReturns := by
  simp only [State.readAck, h]

theorem State.readEot_of_never {s : State} (h : rxTakeIdle s.params.idleMax s.rx = .never) :
    s.readEot = .fault .readNeverReturns := by
  simp only [State.readEot, h]

/-- Settles O34: neither read returns from an exhausted stream. -/
theorem unansweredReadIsStuck : Obligations.UnansweredReadIsStuck := by
  intro s h
  have hidle : rxTakeIdle s.params.idleMax s.rx = .never := by rw [h]; rfl
  have hbyte : rxTakeByte s.rx = .never := by rw [h]; rfl
  exact ⟨State.readGo_of_never hidle, State.readAck_of_never hbyte, State.readEot_of_never hidle⟩

/-! ### An arriving byte -/

section
variable {s : State} (b : Byte)

theorem State.receive_of_go (e : s.st = stGo) : s.receive b = (s.setRx (s.rx ++ [.byte b])).readGo := by
  simp [State.receive, e]

theorem State.receive_of_ackWait (e : s.st = stAckWait) : s.receive b = (s.setRx (s.rx ++ [.byte b])).readAck := by
  simp +decide [State.receive, e]

theorem State.receive_of_eotWait (e : s.st = stEotWait) : s.receive b = (s.setRx (s.rx ++ [.byte b])).readEot := by
  simp +decide [State.receive, e]

theorem State.receive_of_not_waiting (hgo : s.st ≠ stGo) (hack : s.st ≠ stAckWait) (heot : s.st ≠ stEotWait) :
    s.receive b = .next (s.setRx (s.rx ++ [.byte b])) := by
  simp [State.receive, hgo, hack, heot]

end

/-- Settles O39: each received row is `State.receive` of its byte, which has one equation a waiting state. -/
theorem receivedByteJoinsTheStream : Obligations.ReceivedByteJoinsTheStream := by
  intro s i b hrow
  have hexec : exec i s = s.receive b := by rcases hrow with ⟨rfl, rfl⟩ | ⟨rfl, rfl⟩ | rfl <;> rfl
  rw [hexec]
  exact ⟨State.receive_of_go b, State.receive_of_ackWait b, State.receive_of_eotWait b, State.receive_of_not_waiting b⟩

end Sys2Proof.Machine
end

section
/-! SUPPORT. The TX line of a session (41_xmodem_engine R137, R140): the bytes each control position stands behind, and that every
move to the next position sends exactly the bytes between them. -/

namespace Sys2Proof.Machine

/-! ### What a session has sent at each control position -/

section
variable {s : State}

theorem sessionSent_req (e : s.st = stReq) : s.sessionSent = [] := by rw [State.sessionSent, e]; rfl

theorem sessionSent_go (e : s.st = stGo) : s.sessionSent = [s.params.menuUploadByte] := by
  rw [State.sessionSent, e]; rfl

theorem sessionSent_hdrSoh (e : s.st = stHdrSoh) : s.sessionSent = s.sentBlocks (s.idx - 1) := by
  rw [State.sessionSent, e]; rfl

theorem sessionSent_hdrNum (e : s.st = stHdrNum) : s.sessionSent = s.sentBlocks (s.idx - 1) ++ [sohByte] := by
  rw [State.sessionSent, e]; rfl

theorem sessionSent_hdrCmp (e : s.st = stHdrCmp) :
    s.sessionSent = s.sentBlocks (s.idx - 1) ++ [sohByte, blkField s.idx] := by
  rw [State.sessionSent, e]; rfl

theorem sessionSent_data (e : s.st = stData) : s.sessionSent =
    s.sentBlocks (s.idx - 1) ++ frameHeader s.idx ++ (payload s.image s.len s.idx).take s.k.toNat := by
  rw [State.sessionSent, e]; rfl

theorem sessionSent_crcHi (e : s.st = stCrcHi) :
    s.sessionSent = s.sentBlocks (s.idx - 1) ++ frameHeader s.idx ++ payload s.image s.len s.idx := by
  rw [State.sessionSent, e]; rfl

theorem sessionSent_crcLo (e : s.st = stCrcLo) : s.sessionSent =
    s.sentBlocks (s.idx - 1) ++ frameHeader s.idx ++ payload s.image s.len s.idx ++
      [crcHiField (crc16 (payload s.image s.len s.idx))] := by
  rw [State.sessionSent, e]; rfl

theorem sessionSent_ackWait (e : s.st = stAckWait) : s.sessionSent = s.sentBlocks s.idx := by
  rw [State.sessionSent, e]; rfl

theorem sessionSent_prog (e : s.st = stProg) : s.sessionSent = s.sentBlocks s.idx := by
  rw [State.sessionSent, e]; rfl

theorem sessionSent_eotTx (e : s.st = stEotTx) : s.sessionSent = s.sentBlocks s.nblk := by
  rw [State.sessionSent, e]; rfl

theorem sessionSent_eotWait (e : s.st = stEotWait) : s.sessionSent = s.sentBlocks s.nblk ++ [eotByte] := by
  rw [State.sessionSent, e]; rfl

theorem sessionSent_doneOk (e : s.st = stDoneOk) : s.sessionSent = s.sentBlocks s.nblk ++ [eotByte] := by
  rw [State.sessionSent, e]; rfl

/-- Before the first block the menu byte alone is sent. -/
theorem sentBlocks_zero (s : State) : s.sentBlocks 0 = [s.params.menuUploadByte] := rfl

/-- Block i's frame follows the frames of the blocks before it. -/
theorem sentBlocks_eq_append_frame {i : Nat} (h : 1 ≤ i) :
    s.sentBlocks i = s.sentBlocks (i - 1) ++ frameBytes s.image s.len i := by
  obtain ⟨n, rfl⟩ := Nat.exists_eq_add_one.2 h
  simp [State.sentBlocks, framesUpTo]

end

/-! ### The remainder at each control position -/

/-- `crc16` folds the last byte last (R165). -/
theorem crc16_append_singleton (l : List Byte) (b : Byte) : crc16 (l ++ [b]) = crcUpdate (crc16 l) b := by
  simp [crc16, crcXorOut, List.foldl_append]

section
variable {s : State}

/-- Between HDR_NUM and CRC_LO alone CRC is tracked. -/
theorem State.CrcTracks.of_st {c : StCode} (e : s.st = c)
    (hc : c ≠ stHdrNum ∧ c ≠ stHdrCmp ∧ c ≠ stData ∧ c ≠ stCrcHi ∧ c ≠ stCrcLo := by decide) : s.CrcTracks := by
  simp [State.CrcTracks, e, hc]

theorem State.CrcTracks.of_header (e : s.st = stHdrNum ∨ s.st = stHdrCmp) (h : s.crc = 0) : s.CrcTracks := by
  rcases e with e | e <;> simp +decide [State.CrcTracks, e, h]

theorem State.CrcTracks.of_data (e : s.st = stData)
    (h : s.crc = crc16 ((payload s.image s.len s.idx).take s.k.toNat)) : s.CrcTracks := by
  simp +decide [State.CrcTracks, e, h]

theorem State.CrcTracks.of_checksum (e : s.st = stCrcHi ∨ s.st = stCrcLo)
    (h : s.crc = crc16 (payload s.image s.len s.idx)) : s.CrcTracks := by
  rcases e with e | e <;> simp +decide [State.CrcTracks, e, h]

theorem State.CrcTracks.header (h : s.CrcTracks) (e : s.st = stHdrNum ∨ s.st = stHdrCmp) : s.crc = 0 := h.1 e

theorem State.CrcTracks.data (h : s.CrcTracks) (e : s.st = stData) :
    s.crc = crc16 ((payload s.image s.len s.idx).take s.k.toNat) := h.2.1 e

theorem State.CrcTracks.checksum (h : s.CrcTracks) (e : s.st = stCrcHi ∨ s.st = stCrcLo) :
    s.crc = crc16 (payload s.image s.len s.idx) := h.2.2 e

end

/-! ### Every move, every step -/

section
variable {base : List Byte} {s t : State}

/-- A move that sends keeps the line tracked when its byte is the next one of the session. -/
theorem State.TxTracks.send {b : Byte} (h : s.TxTracks base) (htx : t.tx = s.tx ++ [b])
    (hsent : t.sessionSent = s.sessionSent ++ [b]) (hcrc : t.CrcTracks) : t.TxTracks base :=
  ⟨by rw [htx, h.1, hsent, List.append_assoc], hcrc⟩

/-- A move that sends nothing keeps the line tracked when no byte lies between the two control positions. -/
theorem State.TxTracks.keep (h : s.TxTracks base) (htx : t.tx = s.tx) (hsent : t.sessionSent = s.sessionSent)
    (hcrc : t.CrcTracks) : t.TxTracks base :=
  ⟨by rw [htx, h.1, hsent], hcrc⟩

/-- DATA sends the payload byte K and folds it; behind the last one CRC is the block's checksum (R127, R165). -/
theorem State.TxTracks.foldData {b : Byte} (h : s.TxTracks base) (e : s.st = stData) (hk : s.k.toNat ≤ 127)
    (hb : s.dataByte = some b) : ((Claims.sent s b).foldData b).TxTracks base := by
  have htake : (payload s.image s.len s.idx).take (s.k.toNat + 1) =
      (payload s.image s.len s.idx).take s.k.toNat ++ [b] := payload_take_succ (Nat.lt_succ_of_le hk) hb
  have hcrc : crcUpdate s.crc b = crc16 ((payload s.image s.len s.idx).take (s.k.toNat + 1)) := by
    rw [htake, crc16_append_singleton, h.2.data e]
  have hsent : s.sessionSent ++ [b] =
      s.sentBlocks (s.idx - 1) ++ frameHeader s.idx ++ (payload s.image s.len s.idx).take (s.k.toNat + 1) := by
    rw [sessionSent_data e, htake, List.append_assoc _ _ [b]]
  by_cases hlast : s.k.toNat + 1 = blockSize
  · have hst : ((Claims.sent s b).foldData b).st = stCrcHi := if_pos hlast
    have hall : (payload s.image s.len s.idx).take (s.k.toNat + 1) = payload s.image s.len s.idx :=
      List.take_of_length_le (by simp [hlast, blockSize])
    rw [hall] at hsent hcrc
    exact h.send rfl ((sessionSent_crcHi hst).trans hsent.symm) (.of_checksum (.inl hst) hcrc)
  · have hst : ((Claims.sent s b).foldData b).st = stData := if_neg hlast
    have hk' : ((Claims.sent s b).foldData b).k.toNat = s.k.toNat + 1 := toNat_kSucc hk
    rw [← hk'] at hsent hcrc
    exact h.send rfl ((sessionSent_data hst).trans hsent.symm) (.of_data hst hcrc)

/-- PROG goes on to the header of the next block, or behind the last block to EOT (R131). -/
theorem State.TxTracks.progress (h : s.TxTracks base) (e : s.st = stProg) : s.progress.TxTracks base := by
  have hsent := sessionSent_prog e
  unfold State.progress
  split
  next hlast =>
    rw [hlast] at hsent
    exact h.keep rfl ((sessionSent_eotTx rfl).trans hsent.symm) (.of_st (c := stEotTx) rfl)
  next => exact h.keep rfl ((sessionSent_hdrSoh rfl).trans hsent.symm) (.of_st (c := stHdrSoh) rfl)

/-- In a session every move but an abort keeps the line tracked. -/
theorem Move.keeps_tracks (m : Move s t) (h : s.Inv) (hb : s.isBusy = true) (ht : s.TxTracks base)
    (hend : t.st ≠ stDoneErr) : t.TxTracks base := by
  cases m
  case rest hr | imageWrite hr | start hr _ _ _ => exact absurd hb (Bool.eq_false_iff.1 hr)
  case sendAbort | readAbort => exact absurd rfl hend
  case report | alone | arrive => exact ht
  case menu e =>
    have hsent : s.sessionSent ++ [s.params.menuUploadByte] = [s.params.menuUploadByte] := by rw [sessionSent_req e]; rfl
    exact ht.send rfl ((sessionSent_go rfl).trans hsent.symm) (.of_st (c := stGo) rfl)
  case go e =>
    have hsent : s.sessionSent = s.sentBlocks (s.idx - 1) := by
      rw [sessionSent_go e, h.opening (.inr e), sentBlocks_zero]
    exact ht.keep rfl ((sessionSent_hdrSoh rfl).trans hsent.symm) (.of_st (c := stHdrSoh) rfl)
  case soh e =>
    have hsent : s.sessionSent ++ [sohByte] = s.sentBlocks (s.idx - 1) ++ [sohByte] := by rw [sessionSent_hdrSoh e]
    exact ht.send rfl ((sessionSent_hdrNum rfl).trans hsent.symm) (.of_header (.inl rfl) rfl)
  case blkNum e =>
    have hsent : s.sessionSent ++ [blkField s.idx] = s.sentBlocks (s.idx - 1) ++ [sohByte, blkField s.idx] := by
      rw [sessionSent_hdrNum e, List.append_assoc]; rfl
    exact ht.send rfl ((sessionSent_hdrCmp rfl).trans hsent.symm) (.of_header (.inr rfl) (ht.2.header (.inl e)))
  case blkCmp e =>
    have htake : (payload s.image s.len s.idx).take s.k.toNat = [] := by rw [h.header (.inr e)]; rfl
    have hsent : s.sessionSent ++ [cmpField s.idx] =
        s.sentBlocks (s.idx - 1) ++ frameHeader s.idx ++ (payload s.image s.len s.idx).take s.k.toNat := by
      rw [sessionSent_hdrCmp e, htake, List.append_assoc, List.append_nil]; rfl
    have hcrc : s.crc = crc16 ((payload s.image s.len s.idx).take s.k.toNat) := by
      rw [htake, ht.2.header (.inr e)]; rfl
    exact ht.send rfl ((sessionSent_data rfl).trans hsent.symm) (.of_data rfl hcrc)
  case data b e hbyte => exact ht.foldData e (h.rule37.c e) hbyte
  case crcHi e =>
    have hcrc := ht.2.checksum (.inl e)
    have hsent : s.sessionSent ++ [crcHiField s.crc] =
        s.sentBlocks (s.idx - 1) ++ frameHeader s.idx ++ payload s.image s.len s.idx ++
          [crcHiField (crc16 (payload s.image s.len s.idx))] := by
      rw [sessionSent_crcHi e, hcrc]
    exact ht.send rfl ((sessionSent_crcLo rfl).trans hsent.symm) (.of_checksum (.inr rfl) hcrc)
  case crcLo e =>
    obtain ⟨-, -, hidx, -⟩ := h.rule37.b hb
    have hsent : s.sessionSent ++ [crcLoField s.crc] = s.sentBlocks s.idx := by
      rw [sessionSent_crcLo e, ht.2.checksum (.inr e), sentBlocks_eq_append_frame hidx]
      simp [frameBytes]
    exact ht.send rfl ((sessionSent_ackWait rfl).trans hsent.symm) (.of_st (c := stAckWait) rfl)
  case ack e => exact ht.keep rfl ((sessionSent_prog rfl).trans (sessionSent_ackWait e).symm) (.of_st (c := stProg) rfl)
  case prog e => exact ht.progress e
  case eot e =>
    have hsent : s.sessionSent ++ [eotByte] = s.sentBlocks s.nblk ++ [eotByte] := by rw [sessionSent_eotTx e]
    exact ht.send rfl ((sessionSent_eotWait rfl).trans hsent.symm) (.of_st (c := stEotWait) rfl)
  case confirm e =>
    exact ht.keep rfl ((sessionSent_doneOk rfl).trans (sessionSent_eotWait e).symm) (.of_st (c := stDoneOk) rfl)

/-- A move of a session into DONE_ERR adds no byte (R183). -/
theorem Move.tx_of_doneErr (m : Move s t) (ht : t.st = stDoneErr) : t.tx = s.tx := by
  cases m
  case menu | soh | blkNum | blkCmp | crcHi | crcLo | eot => simp +decide at ht
  case data => rw [State.foldData_st] at ht; split at ht <;> simp +decide at ht
  case prog => exact s.progress_tx
  all_goals rfl

end

/-- Settles O46: START's state stands in REQ with nothing sent; in a session `Move.keeps_tracks` takes every move but an abort,
and `Move.tx_of_doneErr` the aborts. A reset leaves the session. -/
theorem sessionBytesAreTheFrames : Obligations.SessionBytesAreTheFrames := by
  refine ⟨fun s t L e => ?start, fun base s t h hb ht e => ?step⟩
  case start =>
    rw [execStart_next e]
    exact ⟨by rw [sessionSent_req rfl, List.append_nil]; rfl, .of_st (c := stReq) rfl⟩
  case step =>
    rcases step_moves e with ⟨-, rfl⟩ | ⟨-, -, m⟩
    · exact ⟨by simp +decide [State.isBusy], by simp +decide⟩
    have hdrop : s.dropTurn.Inv := h.of_registers rfl rfl (fun _ => rfl) h.imageForm
    refine ⟨fun hend => m.keeps_tracks hdrop hb ht ?_, fun herr => ?_⟩
    · rcases hend with hbusy | hok
      · exact (t.isBusy_iff.1 hbusy).2.2
      · rw [hok]; decide
    · rw [m.tx_of_doneErr herr, State.dropTurn_tx, ht.1]

end Sys2Proof.Machine
end

section
/-! SUPPORT. The lanes read back what the encoder puts on them, and the fields of a frame at their offsets (30_encoding R70 to R73,
R76 to R78, R81, R82, R85). -/

namespace Sys2Proof.Machine

open Claims (readsAs)

/-! ### What each lane makes of an encoded word -/

/-- The host's lane: HCMD 01 with LEN above it is START of that length (R72; log 13). -/
theorem decodeHost_start (len : Nat) : decodeHost (4 * len + 1) = .ok (.start len) := by
  have hop : (4 * len + 1) % 4 = 1 := by omega
  have hlen : (4 * len + 1) / 4 = len := by omega
  simp [decodeHost, hop, hlen]

/-- CRCU's lane: CRC_OP stands above the eight bits of DIN (R73). -/
theorem decode_crcOp_word {op : Nat} (hop : op < 4) (din : Byte) :
    decode .crcOp (256 * op + din.toNat) = .ok (decodeCrc op din) := by
  have hdin : din.toNat < 256 := din.isLt
  have hfits : 256 * op + din.toNat < 1024 := by omega
  have hfield : (256 * op + din.toNat) / 256 = op := by omega
  have hlow : BitVec.ofNat 8 (256 * op + din.toNat) = din := BitVec.eq_of_toNat_eq (by simp; omega)
  simp only [decode, hfits, if_true, hfield, hlow]

/-- A transmitting lane reads the byte at its position (R76, R81). -/
theorem decode_tx_toNat (pos : TxPos) (b : Byte) : decode (.tx pos) b.toNat = decodeTx pos b := by
  have hfits : b.toNat < 256 := b.isLt
  simp [decode, hfits]

/-- The receiving lane reads the byte (R82). -/
theorem decode_rx_toNat (b : Byte) : decode .rx b.toNat = .ok (decodeRx b) := by
  have hfits : b.toNat < 256 := b.isLt
  simp [decode, hfits]

/-- RX_OTHER is any byte but ACK and 'C' (R82). -/
theorem decodeRx_of_wellFormed {x : Byte} (h : (Instr.rxOther x).wellFormed = true) : decodeRx x = .rxOther x := by
  obtain ⟨hack, hgo⟩ : x ≠ ackByte ∧ x ≠ goByte := by simpa [Instr.wellFormed] using h
  simp [decodeRx, hack, hgo]

/-- Decoding inverts encoding: a split along the lanes, each with its own equation above. -/
theorem decode_encode {i : Instr} (h : i.wellFormed = true) : decode (encode i).1 (encode i).2 = .ok i := by
  cases i
  case start len => exact decodeHost_start len
  case crcHold din => simpa [encode, decodeCrc] using decode_crcOp_word (op := 0) (by decide) din
  case crcClear din => exact decode_crcOp_word (op := 1) (by decide) din
  case crcUpdate din => exact decode_crcOp_word (op := 2) (by decide) din
  case crcReserved11 din => exact decode_crcOp_word (op := 3) (by decide) din
  case txMenuUpload | txSoh | txBlknum | txBlkcmp | txData | txCrcHi | txCrcLo | txEot => exact decode_tx_toNat _ _
  case rxAck | rxGoC => exact decode_rx_toNat _
  case rxOther x => exact (decode_rx_toNat x).trans (congrArg _ (decodeRx_of_wellFormed h))
  all_goals rfl

/-- Settles O1: `decode_encode`. -/
theorem decodeEncodeAgree : Obligations.DecodeEncodeAgree := fun _ h => decode_encode h

/-! ### The fields of a frame at their offsets -/

theorem framePos_payload {k : Nat} (hk : k < 128) : framePos (3 + k) = some .data := by
  have hnum : 3 + k ≠ 1 := by omega
  have hcmp : 3 + k ≠ 2 := by omega
  have hlast : 3 + k ≤ 130 := by omega
  simp [framePos, hnum, hcmp, hlast]

/-- A frame ends with offset 132 (R76). -/
theorem framePos_eq_none_iff (offset : Nat) : framePos offset = none ↔ 133 ≤ offset := by
  unfold framePos
  split_ifs <;> simp <;> omega

/-- From offset 131 on stand the two bytes of the checksum (R76). -/
theorem frameBytes_getElem?_crc (img : Memory) (len i j : Nat) :
    (frameBytes img len i)[131 + j]? =
      [crcHiField (crc16 (payload img len i)), crcLoField (crc16 (payload img len i))][j]? := by
  have hlen : (frameHeader i ++ payload img len i).length = 131 := by simp [frameHeader]
  rw [frameBytes, List.getElem?_append_right (by omega), hlen, Nat.add_sub_cancel_left]

/-- The byte at an offset reads as the instruction whose encoding puts it at that offset's position. -/
theorem readsAs_of_encode {f : List Byte} {offset : Nat} {pos : TxPos} {b : Byte} {ins : Instr}
    (hpos : framePos offset = some pos) (hb : f[offset]? = some b) (hw : ins.wellFormed = true)
    (henc : encode ins = (.tx pos, b.toNat)) : readsAs f offset ins :=
  ⟨pos, b, hpos, hb, by simpa [henc] using decode_encode hw, henc⟩

/-- Settles O5: `frameLayout` and `frameBytes_getElem?_crc` give the byte at each offset, `readsAs_of_encode` its row. -/
theorem frameFieldsDecodeInPlace : Obligations.FrameFieldsDecodeInPlace := by
  refine ⟨fun img len i => ?_, framePos_eq_none_iff⟩
  obtain ⟨-, hsoh, hnum, hcmp, hdata, -⟩ := frameLayout img len i
  exact ⟨readsAs_of_encode rfl hsoh rfl rfl, readsAs_of_encode rfl hnum rfl rfl, readsAs_of_encode rfl hcmp rfl rfl,
    fun k hk b hb => readsAs_of_encode (framePos_payload hk) (hdata k hk b hb) rfl rfl,
    readsAs_of_encode rfl (frameBytes_getElem?_crc img len i 0) rfl rfl,
    readsAs_of_encode rfl (frameBytes_getElem?_crc img len i 1) rfl rfl⟩

/-! ### The values of the fields -/

@[simp] theorem blkField_toNat (idx : Nat) : (blkField idx).toNat = idx % 256 := by simp [blkField]

@[simp] theorem cmpField_toNat (idx : Nat) : (cmpField idx).toNat = 255 - idx % 256 := by
  simp only [cmpField, BitVec.toNat_ofNat]
  omega

@[simp] theorem crcHiField_toNat (c : Remainder) : (crcHiField c).toNat = c.toNat / 256 := by
  have hc := c.isLt
  simp only [crcHiField, BitVec.extractLsb'_toNat, Nat.shiftRight_eq_div_pow]
  omega

@[simp] theorem crcLoField_toNat (c : Remainder) : (crcLoField c).toNat = c.toNat % 256 := by
  simp [crcLoField]

/-- The complement of the block number is its bitwise NOT (R78). -/
theorem cmpField_eq_not (idx : Nat) : cmpField idx = ~~~ blkField idx :=
  BitVec.eq_of_toNat_eq (by simp [BitVec.toNat_not])

/-- Settles O6: both fields are their values as naturals, and XOR with 0xFF is NOT. -/
theorem blockNumberAndComplement : Obligations.BlockNumberAndComplement := by
  intro idx
  have hzero : blkField idx = 0x00 ↔ 256 ∣ idx := by
    rw [← BitVec.toNat_inj, blkField_toNat, Nat.dvd_iff_mod_eq_zero]; rfl
  have hxor : ~~~ blkField idx = blkField idx ^^^ 0xFF := (BitVec.xor_allOnes (x := blkField idx)).symm
  have hcmp := cmpField_eq_not idx
  exact ⟨blkField_toNat idx, hzero, by simp, hcmp, hcmp.trans hxor, by simp; omega⟩

end Sys2Proof.Machine
end

section
/-! SUPPORT. The wire rows (30_encoding R81, R82): what the block refuses to send, and what a waiting read makes of one byte. -/

namespace Sys2Proof.Machine

/-! ### No other byte is sent (R81) -/

theorem sentOnly_false (r : Result) : sentOnly false r = .refused .byteNotSentHere := rfl

/-- A transmitted row of a fixed byte is refused away from its sender. -/
theorem sentOnly_of_other_state {s : State} {c : StCode} (h : s.st ≠ c) (r : Result) :
    sentOnly (s.st == c) r = .refused .byteNotSentHere := by
  rw [beq_eq_false_iff_ne.2 h, sentOnly_false]

/-- A transmitted row with an operand is refused away from its sender, and with a value other than its sender's. -/
theorem sentOnly_of_other_byte {α : Type} [BEq α] [LawfulBEq α] {s : State} {c : StCode} {v w : α}
    (h : s.st ≠ c ∨ v ≠ w) (r : Result) : sentOnly (s.st == c && v == w) r = .refused .byteNotSentHere := by
  have : (s.st == c && v == w) = false := by simpa [imp_iff_not_or] using h
  rw [this, sentOnly_false]

/-- A byte whose value differs is another byte. -/
theorem byte_ne_of_toNat_ne {v w : Byte} {n : Nat} (hw : w.toNat = n) (h : v.toNat ≠ n) : v ≠ w :=
  fun e => h (e ▸ hw)

/-- Settles O37: every transmitted row is a `sentOnly` of its sender's state and byte. -/
theorem noOtherByteIsSent : Obligations.NoOtherByteIsSent := by
  intro s v
  exact ⟨fun h => sentOnly_of_other_byte h _, fun h => sentOnly_of_other_state h _,
    fun h => sentOnly_of_other_byte (h.imp_right (byte_ne_of_toNat_ne (blkField_toNat _))) _,
    fun h => sentOnly_of_other_byte (h.imp_right (byte_ne_of_toNat_ne (cmpField_toNat _))) _,
    fun h => sentOnly_of_other_byte h _,
    fun h => sentOnly_of_other_byte (h.imp_right (byte_ne_of_toNat_ne (crcHiField_toNat _))) _,
    fun h => sentOnly_of_other_byte (h.imp_right (byte_ne_of_toNat_ne (crcLoField_toNat _))) _,
    fun h => sentOnly_of_other_state h _⟩

/-! ### A read that is answered -/

theorem State.readGo_of_reply {s : State} {bytes : List Byte} {rest : List RxItem}
    (h : rxTakeIdle s.params.idleMax s.rx = .reply bytes rest) : s.readGo = .next ((s.setRx rest).classifyGo bytes) := by
  simp only [State.readGo, h]

theorem State.readAck_of_byte {s : State} {b : Byte} {rest : List RxItem} (h : rxTakeByte s.rx = .byte b rest) :
    s.readAck = .next (if b = ackByte then (s.setRx rest).setSt stProg
      else (s.setRx rest).abort resBlockTransferFailed phBlockLoop s.idx) := by
  simp only [State.readAck, h]

theorem State.readEot_of_reply {s : State} {bytes : List Byte} {rest : List RxItem}
    (h : rxTakeIdle s.params.idleMax s.rx = .reply bytes rest) : s.readEot = .next ((s.setRx rest).classifyEot bytes) := by
  simp only [State.readEot, h]

/-- A reply of one byte goes on when it is 'C' (R123). -/
theorem State.classifyGo_singleton (s : State) (b : Byte) : s.classifyGo [b] =
    if b = goByte then s.setSt stHdrSoh else s.abort resUnexpectedTransferType phAwaitGoAhead 0 := rfl

/-- A reply of one byte ends the session when it is ACK (R133). -/
theorem State.classifyEot_singleton (s : State) (b : Byte) : s.classifyEot [b] =
    if b = ackByte then s.succeed else s.abort resTransferNotConfirmed phEndOfTransmission 0 := by
  simp [State.classifyEot]

/-- An idle-read of a stream of one byte replies with that byte: the stream ends behind it (log 12). -/
theorem rxTakeIdle_singleton {max : Nat} (h : 1 ≤ max) (b : Byte) : rxTakeIdle max [.byte b] = .reply [b] [] := by
  obtain ⟨n, rfl⟩ := Nat.exists_eq_add_of_le' h
  cases n <;> rfl

/-! ### One byte on an empty stream -/

section
variable {s : State} (b : Byte) (hrx : s.rx = [])
include hrx

/-- What arrives and is read leaves the stream as it was. -/
theorem State.setRx_setRx_nil (q : List RxItem) : (s.setRx q).setRx [] = s := by
  rw [← hrx]; rfl

theorem State.readGo_arrived (hmax : 1 ≤ s.params.idleMax) :
    (s.setRx (s.rx ++ [.byte b])).readGo =
      .next (if b = goByte then s.setSt stHdrSoh else s.abort resUnexpectedTransferType phAwaitGoAhead 0) := by
  rw [hrx, State.readGo_of_reply (rxTakeIdle_singleton hmax b), State.setRx_setRx_nil hrx, State.classifyGo_singleton]

theorem State.readAck_arrived :
    (s.setRx (s.rx ++ [.byte b])).readAck =
      .next (if b = ackByte then s.setSt stProg else s.abort resBlockTransferFailed phBlockLoop s.idx) := by
  rw [hrx, State.readAck_of_byte (b := b) (rest := []) rfl, State.setRx_setRx_nil hrx, State.setRx_idx]

theorem State.readEot_arrived (hmax : 1 ≤ s.params.idleMax) :
    (s.setRx (s.rx ++ [.byte b])).readEot =
      .next (if b = ackByte then s.succeed else s.abort resTransferNotConfirmed phEndOfTransmission 0) := by
  rw [hrx, State.readEot_of_reply (rxTakeIdle_singleton hmax b), State.setRx_setRx_nil hrx, State.classifyEot_singleton]

end

/-- Settles O38: `receivedByteJoinsTheStream` makes the received row its waiting state's read, and the `_arrived` lemmas say what that
read makes of the one byte. -/
theorem receivedByteIsClassified : Obligations.ReceivedByteIsClassified := by
  intro s i b hrow hrx hmax
  obtain ⟨hgo, hack, heot, -⟩ := receivedByteJoinsTheStream s i b (hrow.imp_right (Or.imp_right And.left))
  replace hgo := fun e => (hgo e).trans (State.readGo_arrived b hrx hmax)
  replace hack := fun e => (hack e).trans (State.readAck_arrived b hrx)
  replace heot := fun e => (heot e).trans (State.readEot_arrived b hrx hmax)
  exact ⟨fun e hb => (hgo e).trans (congrArg _ (if_pos hb)), fun e hb => (hgo e).trans (congrArg _ (if_neg hb)),
    fun e hb => (hack e).trans (congrArg _ (if_pos hb)), fun e hb => (hack e).trans (congrArg _ (if_neg hb)),
    fun e hb => (heot e).trans (congrArg _ (if_pos hb)), fun e hb => (heot e).trans (congrArg _ (if_neg hb))⟩

end Sys2Proof.Machine
end

section
/-! SUPPORT. Payload bytes do not steer the block (30_encoding R79): XFSM's turn on a state whose image, CRC and TX line are replaced
by others leaves the same control part. -/

namespace Sys2Proof.Machine

/-- The state with another image, another remainder and other bytes on the TX line: all that `State.control` leaves out. -/
def State.withPayload (s : State) (img : Memory) (c : Remainder) (line : List Byte) : State :=
  { s with image := img, crc := c, tx := line }

/-- States with one control part differ in image, CRC and TX line alone. -/
theorem State.exists_withPayload_of_control {s s' : State} (h : s.control = s'.control) :
    ∃ img c line, s' = s.withPayload img c line :=
  ⟨s'.image, s'.crc, s'.tx, (congrArg (fun t : State => t.withPayload s'.image s'.crc s'.tx) h.symm :)⟩

/-- The control part of the next state, where there is one. -/
def controlAfter : Result → Option State
  | .next t => some t.control
  | _ => none

theorem controlAfter_eq_some {r : Result} {u : State} (h : controlAfter r = some u) : ∃ t, r = .next t ∧ t.control = u := by
  cases r with
  | next t => exact ⟨t, rfl, Option.some.inj h⟩
  | fault | refused => cases h

section
variable (s : State) (img : Memory) (c : Remainder) (line : List Byte)

@[simp] theorem State.withPayload_rx : (s.withPayload img c line).rx = s.rx := rfl
@[simp] theorem State.withPayload_params : (s.withPayload img c line).params = s.params := rfl

/-! ### The shared operations -/

/-- The byte sent does not steer a sending step whose own writes it does not steer. -/
theorem State.control_sendByte_withPayload (b b' : Byte) (r : ResCode) (p : PhaseCode) (i : Nat) {f f' : State → State}
    (hf : ∀ t img c line, (f' (t.withPayload img c line)).control = (f t).control) :
    ((s.withPayload img c line).sendByte b' r p i f').control = (s.sendByte b r p i f).control := by
  rcases s.txAnswer.ok_or_fail with h | h
  · rw [State.sendByte_of_ok h, State.sendByte_of_ok (s := s.withPayload img c line) h]
    exact hf { s with tx := s.tx ++ [b], txAnswers := s.txAnswers.tail } img c (line ++ [b'])
  · rw [State.sendByte_of_fail h, State.sendByte_of_fail (s := s.withPayload img c line) h]
    rfl

theorem State.control_classifyGo_withPayload (reply : List Byte) :
    ((s.withPayload img c line).classifyGo reply).control = (s.classifyGo reply).control := by
  unfold State.classifyGo
  split
  · rfl
  · split <;> rfl

theorem State.control_classifyEot_withPayload (reply : List Byte) :
    ((s.withPayload img c line).classifyEot reply).control = (s.classifyEot reply).control := by
  unfold State.classifyEot
  split <;> rfl

/-! ### The instructions of XFSM that read, report or send payload -/

theorem State.readGo_withPayload : controlAfter (s.withPayload img c line).readGo = controlAfter s.readGo := by
  simp only [State.readGo, State.withPayload_params, State.withPayload_rx]
  cases rxTakeIdle s.params.idleMax s.rx with
  | never | fail => rfl
  | reply bytes rest => exact congrArg some ((s.setRx rest).control_classifyGo_withPayload img c line bytes)

theorem State.readAck_withPayload : controlAfter (s.withPayload img c line).readAck = controlAfter s.readAck := by
  simp only [State.readAck, State.withPayload_rx]
  cases rxTakeByte s.rx with
  | never | fail => rfl
  | byte b rest =>
    dsimp only
    split <;> rfl

theorem State.readEot_withPayload : controlAfter (s.withPayload img c line).readEot = controlAfter s.readEot := by
  simp only [State.readEot, State.withPayload_params, State.withPayload_rx]
  cases rxTakeIdle s.params.idleMax s.rx with
  | never | fail => rfl
  | reply bytes rest => exact congrArg some ((s.setRx rest).control_classifyEot_withPayload img c line bytes)

theorem State.progress_withPayload : (s.withPayload img c line).progress.control = s.progress.control := by
  unfold State.progress
  change (if s.idx = s.nblk then _ else _ : State).control = _
  split <;> rfl

end

/-- Where the image is loaded, DATA finds its byte (R52, R202). -/
theorem State.dataByte_of_loaded {s : State} (h : imageLoaded s.image s.len = true) : ∃ b, s.dataByte = some b := by
  rcases Nat.lt_or_ge (dataAddr s.idx s.k.toNat) s.len with ha | ha
  · rw [State.dataByte, padByte_of_lt ha]
    exact Option.isSome_iff_exists.1 ((imageLoaded_iff _ _).1 h _ ha)
  · exact ⟨fillByte, padByte_of_le ha⟩

theorem State.sendData_of_byte {s : State} {b : Byte} (h : s.dataByte = some b) :
    s.sendData = .next (s.sendInBlock b fun t => t.foldData b) := by
  simp only [State.sendData, h]

theorem State.sendData_withPayload {s : State} {img : Memory} (c : Remainder) (line : List Byte)
    (h : imageLoaded s.image s.len = true) (h' : imageLoaded img s.len = true) :
    controlAfter (s.withPayload img c line).sendData = controlAfter s.sendData := by
  obtain ⟨b, hb⟩ := State.dataByte_of_loaded h
  obtain ⟨b', hb'⟩ := State.dataByte_of_loaded (s := s.withPayload img c line) h'
  rw [State.sendData_of_byte hb, State.sendData_of_byte hb']
  exact congrArg some (s.control_sendByte_withPayload img c line b b' _ _ _ fun _ _ _ _ => rfl)

/-! ### XFSM's turn -/

/-- One case an instruction of XFSM (R71): the sends by the lemma on `State.sendByte`, the reads and DATA by their own. -/
theorem exec_xfsm_withPayload (n : Nat) {s : State} {img : Memory} (c : Remainder) (line : List Byte)
    (h : imageLoaded s.image s.len = true) (h' : imageLoaded img s.len = true) :
    controlAfter (exec (decodeState n) (s.withPayload img c line)) = controlAfter (exec (decodeState n) s) := by
  have hsend := fun b b' r p i f f' hf =>
    congrArg some (s.control_sendByte_withPayload img c line b b' r p i (f := f) (f' := f') hf)
  generalize hi : decodeState n = i
  cases i
  case req | hdrSoh | hdrNum | hdrCmp | crcHi | crcLo | eotTx => exact hsend _ _ _ _ _ _ _ fun _ _ _ _ => rfl
  case go => exact s.readGo_withPayload img c line
  case ackWait => exact s.readAck_withPayload img c line
  case eotWait => exact s.readEot_withPayload img c line
  case data => exact State.sendData_withPayload c line h h'
  case prog => exact congrArg some (s.progress_withPayload img c line)
  case idle | doneOk | doneErr | reservedSt => rfl
  all_goals
    -- the rows of the other lanes: no state code selects them
    unfold decodeState at hi
    split at hi <;> cases hi

/-- XFSM's turn runs the instruction ST selects (R32, R120). -/
theorem step_of_xfsm {s : State} (hlegal : s.reservedCode = false) (ht : s.nextTurn = .xfsm) :
    step s = exec (decodeState s.st.toNat) s.dropTurn := by
  rw [step_of_legal hlegal, ht]; rfl

/-- Settles O55: the other state is the first with another payload, and `exec_xfsm_withPayload` runs XFSM's turn on both. -/
theorem payloadNeverSteersControl : Obligations.PayloadNeverSteersControl := by
  intro s s' t hc ht hl hl' e
  have hlegal : s.reservedCode = false := by
    rcases step_moves e with ⟨hr, -⟩ | ⟨-, h, -⟩
    · rw [ht] at hr; cases hr
    · exact h
  obtain ⟨img, c, line, rfl⟩ := State.exists_withPayload_of_control hc
  rw [step_of_xfsm hlegal ht] at e
  have hrun := exec_xfsm_withPayload s.st.toNat (s := s.dropTurn) (img := img) c line hl hl'
  rw [e] at hrun
  obtain ⟨t', e', hcontrol⟩ := controlAfter_eq_some hrun
  exact ⟨t', (step_of_xfsm (s := s.withPayload img c line) hlegal ht).trans e', hcontrol.symm⟩

end Sys2Proof.Machine
end

section
/-! SUPPORT. The host's operations (40_session R100 to R104): when START begins a session and when it is refused, the flags that
READ_STATUS hands over, and the event of each move. -/

namespace Sys2Proof.Machine

/-! ### The flags as functions of ST (R33) -/

theorem State.isBusy_eq_decide (s : State) :
    s.isBusy = decide (s.st ≠ stIdle ∧ s.st ≠ stDoneOk ∧ s.st ≠ stDoneErr) := by
  rw [Bool.eq_iff_iff, s.isBusy_iff, decide_eq_true_iff]

theorem State.isDone_eq_decide (s : State) : s.isDone = decide (s.st = stDoneOk ∨ s.st = stDoneErr) := by
  rw [State.isDone, Bool.decide_or]; rfl

theorem State.isOk_eq_decide (s : State) : s.isOk = decide (s.st = stDoneOk) := rfl

theorem State.isBusy_eq_false_iff (s : State) :
    s.isBusy = false ↔ s.st = stIdle ∨ s.st = stDoneOk ∨ s.st = stDoneErr := by
  simp only [State.isBusy, Bool.not_eq_false', Bool.or_eq_true, beq_iff_eq, or_assoc]

theorem State.not_isDone_of_isBusy {s : State} (h : s.isBusy = true) : ¬ s.isDone = true := by
  obtain ⟨-, hok, herr⟩ := s.isBusy_iff.1 h
  simp [State.isDone, hok, herr]

/-- Settles O18: the tuple handed over is `State.statusTuple`, its flags written as functions of ST. -/
theorem readStatusReturnsTuple : Obligations.ReadStatusReturnsTuple := by
  intro s
  rw [← s.isBusy_eq_decide, ← s.isDone_eq_decide, ← s.isOk_eq_decide]
  rfl

/-! ### START (R100, R102, R202) -/

section
variable {s : State} {n : Nat}

/-- The inputs R102 (a) to (c) refuses. -/
theorem execStart_refused (h : s.isBusy = true ∨ n = 0 ∨ s.params.maxImageLen < n) :
    ∃ r, execStart n s = .refused r := by
  unfold execStart
  split_ifs with hbusy hempty hlong hloaded
  · exact ⟨_, rfl⟩
  · exact ⟨_, rfl⟩
  · exact ⟨_, rfl⟩
  · exact absurd h (by simp [hbusy, hempty, hlong])
  · exact ⟨_, rfl⟩

/-- A legal START at rest turns on whether the image is loaded (R100, R202). -/
theorem execStart_of_legal (hs : s.isBusy = false) (h1 : 1 ≤ n) (hm : n ≤ s.params.maxImageLen) :
    execStart n s =
      if imageLoaded s.image n then .next (s.startSession n) else .refused .startImageNotLoaded := by
  have hempty : n ≠ 0 := by omega
  simp [execStart, hs, hempty, hm]

/-- An image with a byte absent below L is not loaded in full (log 8). -/
theorem imageLoaded_eq_false {m : Memory} {a : Nat} (ha : a < n) (h : m.read a = none) : imageLoaded m n = false := by
  rw [Bool.eq_false_iff, ne_eq, imageLoaded_iff]
  intro hall
  simpa [h] using hall a ha

end

/-- Settles O16: `execStart_of_legal` where the image is loaded, `execStart_refused` elsewhere. -/
theorem startBeginsSession : Obligations.StartBeginsSession := by
  refine fun s L => ⟨fun hst h1 hm hloaded => ?begins, fun hillegal => ?refused⟩
  case begins =>
    exact (execStart_of_legal (s.isBusy_eq_false_iff.2 hst) h1 hm).trans (if_pos ((imageLoaded_iff _ _).2 hloaded))
  case refused =>
    apply execStart_refused
    by_contra! h
    obtain ⟨hbusy, hempty, hlong⟩ := h
    exact hillegal ⟨s.isBusy_eq_false_iff.1 (by simpa using hbusy), Nat.one_le_iff_ne_zero.2 hempty, hlong⟩

/-! ### The refused inputs (R102, R202) -/

/-- An image write while BUSY is refused (R64, R102 e). -/
theorem State.runTurn_imageWrite_of_busy {s : State} (h : s.isBusy = true) (a : Nat) (b : Byte) :
    s.runTurn (.imageWrite a b) = .refused .imageWriteWhileBusy := by
  rw [State.runTurn, h]; rfl

/-- Settles O17: START by `execStart_refused` and, where the image is not loaded, by `execStart_of_legal`; the image write by
`State.runTurn_imageWrite_of_busy`. -/
theorem refusedHostInputs : Obligations.RefusedHostInputs := by
  refine ⟨fun s L h => execStart_refused h, ?notLoaded, fun s => ⟨rfl, rfl⟩, ?imageWrite⟩
  case notLoaded =>
    intro s L a hst h1 hm ha habsent
    refine (execStart_of_legal (s.isBusy_eq_false_iff.2 hst) h1 hm).trans ?_
    rw [imageLoaded_eq_false ha habsent]; rfl
  case imageWrite =>
    intro s a b ht hb hlegal
    rw [step_of_legal hlegal, ht]
    exact State.runTurn_imageWrite_of_busy (s := s.dropTurn) hb a b

/-! ### Events (R104, R188) -/

theorem State.progress_isBusy (s : State) : s.progress.isBusy = true := by
  unfold State.progress
  split
  · exact State.isBusy_of_st (c := stEotTx) rfl
  · exact State.isBusy_of_st (c := stHdrSoh) rfl

@[simp] theorem State.progress_events (s : State) : s.progress.events = s.events ++ [.progress s.idx s.nblk] := by
  unfold State.progress
  split <;> rfl

@[simp] theorem State.progress_pcnt (s : State) : s.progress.pcnt = s.pcnt + 1 := by
  unfold State.progress
  split <;> rfl

theorem State.foldData_isBusy (s : State) (b : Byte) : (s.foldData b).isBusy = true := by
  by_cases hlast : s.k.toNat + 1 = blockSize
  · exact State.isBusy_of_st (c := stCrcHi) (by simp [hlast])
  · exact State.isBusy_of_st (c := stData) (by simp [hlast])

/-- A move ends the session and emits DONE with what the registers then hold, or it ends none and emits nothing or, in PROG,
PROGRESS. -/
theorem Move.event_cases {s t : State} (m : Move s t) (h : s.Inv) :
    ((s.isBusy = true ∧ t.isDone = true) ∧ t.events = s.events ++ [.done t.res t.resPhase t.resIdx]) ∨
    (¬ (s.isBusy = true ∧ t.isDone = true) ∧
      (t.events = s.events ∨
        (s.st = stProg ∧ t.events = s.events ++ [.progress s.idx s.nblk] ∧ t.pcnt = s.pcnt + 1))) := by
  cases m
  case sendAbort row | readAbort row => exact .inl ⟨⟨row.isBusy, rfl⟩, rfl⟩
  case confirm e =>
    have hb : s.isBusy = true := State.isBusy_of_st e
    obtain ⟨hphase, hidx⟩ := h.noAbortYet hb
    refine .inl ⟨⟨hb, rfl⟩, ?_⟩
    simp [State.succeed, hphase, hidx]
  case prog e =>
    exact .inr ⟨fun hd => State.not_isDone_of_isBusy s.progress_isBusy hd.2, .inr ⟨e, by simp, by simp⟩⟩
  all_goals
    refine .inr ⟨?_, .inl rfl⟩
    rintro ⟨hb, hd⟩
  case rest hs | imageWrite hs => exact Bool.eq_false_iff.1 hs hb
  case report | alone | arrive => exact State.not_isDone_of_isBusy hb hd
  case data => exact State.not_isDone_of_isBusy (State.foldData_isBusy _ _) hd
  case start | menu | soh | blkNum | blkCmp | crcHi | crcLo | eot | go | ack =>
    exact Bool.false_ne_true hd

/-- Settles O49: a reset emits nothing and does not end in DONE; any other step is a move, by `Move.event_cases`. -/
theorem eventsComeFromTheirSteps : Obligations.EventsComeFromTheirSteps := by
  intro s t h e
  rcases step_moves e with ⟨-, rfl⟩ | ⟨-, -, m⟩
  · exact ⟨fun hend => absurd hend.2 Bool.false_ne_true, fun _ => .inl rfl⟩
  have hdrop : s.dropTurn.Inv := h.of_registers rfl rfl (fun _ => rfl) h.imageForm
  rcases m.event_cases hdrop with ⟨hend, hdone⟩ | ⟨hend, hother⟩
  · exact ⟨fun _ => hdone, fun hne => absurd hend hne⟩
  · exact ⟨fun he => absurd he hend, fun _ => hother⟩

end Sys2Proof.Machine
end

section
/-! SUPPORT. XFSM state by state (41_xmodem_engine R121 to R136): the sends by one lemma on `State.sendByte`, the reads by their
outcomes, and the transmitted rows as the sends of their states. -/

namespace Sys2Proof.Machine

/-! ### The reserved encodings and the resting states -/

theorem State.reservedCode_eq_true_iff (s : State) :
    s.reservedCode = true ↔ s.st = stReserved ∨ 9 ≤ s.res.toNat ∨ 5 ≤ s.resPhase.toNat := by
  simp [State.reservedCode, or_assoc]

/-- Where a reserved code stands, every step but a reset's is a fault (R136). -/
theorem step_of_reserved {s : State} (h : s.reservedCode = true) (ht : s.nextTurn ≠ .reset) :
    step s = .fault .reservedState := by
  simp [step, State.runStep, h, ht]

/-- Settles O20: the two reserved rows have one meaning each, and `step_of_reserved` stops the step. -/
theorem reservedEncodingsStop : Obligations.ReservedEncodingsStop :=
  ⟨fun _ => rfl, fun _ _ => rfl, fun s h ht => step_of_reserved (s.reservedCode_eq_true_iff.2 h) ht⟩

/-- Settles O21: the three meanings are the state itself. -/
theorem restingStatesHold : Obligations.RestingStatesHold := fun _ => ⟨rfl, rfl, rfl⟩

/-! ### The states that send -/

/-- An instruction that sends: its own writes behind the byte when the link answers ok, the abort alone when it answers fail
(R55, R183). -/
theorem exec_of_sendByte {i : Instr} {s : State} {b : Byte} {r : ResCode} {p : PhaseCode} {n : Nat} {f : State → State}
    (h : exec i s = .next (s.sendByte b r p n f)) :
    (s.txAnswer = .ok → exec i s = .next (f (Claims.sent s b))) ∧
    (s.txAnswer = .fail → exec i s = .next (Claims.aborted (Claims.unsent s) r p n)) :=
  ⟨fun ok => h.trans (congrArg _ (State.sendByte_of_ok ok ..)),
    fun fail => h.trans (congrArg _ (State.sendByte_of_fail fail ..))⟩

/-- An instruction that sends in the block loop aborts with IO_ERROR at the block's index (R181). -/
theorem exec_of_sendInBlock {i : Instr} {s : State} {b : Byte} {f : State → State}
    (h : exec i s = .next (s.sendInBlock b f)) :
    (s.txAnswer = .ok → exec i s = .next (f (Claims.sent s b))) ∧
    (s.txAnswer = .fail → exec i s = .next (Claims.aborted (Claims.unsent s) resIoError phBlockLoop s.idx)) :=
  exec_of_sendByte h

/-- The block number as the low byte of IDX (R77). -/
theorem blkField_eq_ofNat (idx : Nat) : blkField idx = BitVec.ofNat 8 idx := BitVec.eq_of_toNat_eq (by simp)

/-- The complement as a subtraction of bytes (R78). -/
theorem cmpField_eq_sub (idx : Nat) : cmpField idx = 255#8 - BitVec.ofNat 8 idx := by
  apply BitVec.eq_of_toNat_eq
  simp only [cmpField_toNat, BitVec.toNat_sub, BitVec.toNat_ofNat]
  omega

/-- CRC[15:8] as the quotient by 256 (R80). -/
theorem crcHiField_eq_ofNat (c : Remainder) : crcHiField c = BitVec.ofNat 8 (c.toNat / 256) := by
  have hc := c.isLt
  apply BitVec.eq_of_toNat_eq
  simp only [crcHiField_toNat, BitVec.toNat_ofNat]
  omega

/-- CRC[7:0] as the remainder by 256 (R80). -/
theorem crcLoField_eq_ofNat (c : Remainder) : crcLoField c = BitVec.ofNat 8 (c.toNat % 256) :=
  BitVec.eq_of_toNat_eq (by simp)

/-- Settles O22: REQ is a send. -/
theorem reqSendsMenuByte : Obligations.ReqSendsMenuByte :=
  fun s => (exec_of_sendByte (i := .req) (s := s) rfl :)

/-- Settles O24: HDR_SOH is a send. -/
theorem hdrSohStartsFrame : Obligations.HdrSohStartsFrame :=
  fun s => (exec_of_sendInBlock (i := .hdrSoh) (s := s) rfl :)

/-- Settles O25: HDR_NUM is a send. -/
theorem hdrNumSendsBlockNumber : Obligations.HdrNumSendsBlockNumber := by
  intro s
  rw [← blkField_eq_ofNat]
  exact (exec_of_sendInBlock (i := .hdrNum) (s := s) rfl :)

/-- Settles O26: HDR_CMP is a send. -/
theorem hdrCmpSendsComplement : Obligations.HdrCmpSendsComplement := by
  intro s
  rw [← cmpField_eq_sub]
  exact (exec_of_sendInBlock (i := .hdrCmp) (s := s) rfl :)

/-- Before the block's last payload byte DATA goes on (R127). -/
theorem State.foldData_of_lt {s : State} (h : s.k.toNat < 127) (b : Byte) :
    s.foldData b = { s with crc := crcUpdate s.crc b, k := s.k + 1, st := stData } := by
  have hk : BitVec.ofNat 8 (s.k.toNat + 1) = s.k + 1 := by bv_omega
  have hst : (if s.k.toNat + 1 = blockSize then stCrcHi else stData) = stData := if_neg (by simp only [blockSize]; omega)
  rw [State.foldData, hk, hst]; rfl

/-- Behind the block's last payload byte the checksum follows (R127). -/
theorem State.foldData_of_last {s : State} (h : s.k = 127) (b : Byte) :
    s.foldData b = { s with crc := crcUpdate s.crc b, k := 128, st := stCrcHi } := by
  rw [State.foldData, h]; rfl

/-- Settles O27: where the image holds the byte DATA is a send, whose writes are `State.foldData`. -/
theorem dataSendsPayloadByte : Obligations.DataSendsPayloadByte := by
  intro s b hb
  obtain ⟨hok, hfail⟩ := exec_of_sendInBlock (i := .data) (State.sendData_of_byte hb)
  refine ⟨fun ok hk => (hok ok).trans (congrArg _ ?_), fun ok hk => (hok ok).trans (congrArg _ ?_), hfail⟩
  · exact State.foldData_of_lt (s := Claims.sent s b) hk b
  · exact State.foldData_of_last (s := Claims.sent s b) hk b

/-- Settles O28: CRC_HI is a send. -/
theorem crcHiSendsHighByte : Obligations.CrcHiSendsHighByte := by
  intro s
  rw [← crcHiField_eq_ofNat]
  exact (exec_of_sendInBlock (i := .crcHi) (s := s) rfl :)

/-- Settles O29: CRC_LO is a send. -/
theorem crcLoSendsLowByte : Obligations.CrcLoSendsLowByte := by
  intro s
  rw [← crcLoField_eq_ofNat]
  exact (exec_of_sendInBlock (i := .crcLo) (s := s) rfl :)

/-- Settles O32: EOT_TX is a send. -/
theorem eotTxSendsEot : Obligations.EotTxSendsEot :=
  fun s => (exec_of_sendByte (i := .eotTx) (s := s) rfl :)

/-! ### The states that read -/

section
variable {s : State} {rest : List RxItem}

theorem State.readGo_of_fail (h : rxTakeIdle s.params.idleMax s.rx = .fail rest) :
    s.readGo = .next ((s.setRx rest).abort resIoError phAwaitGoAhead 0) := by
  simp only [State.readGo, h]

theorem State.readAck_of_fail (h : rxTakeByte s.rx = .fail rest) :
    s.readAck = .next ((s.setRx rest).abort resBlockTransferFailed phBlockLoop s.idx) := by
  simp only [State.readAck, h]

theorem State.readEot_of_fail (h : rxTakeIdle s.params.idleMax s.rx = .fail rest) :
    s.readEot = .next ((s.setRx rest).abort resIoError phEndOfTransmission 0) := by
  simp only [State.readEot, h]

end

/-- A reply that is not empty goes on when its last byte is 'C' (R123). -/
theorem State.classifyGo_concat (s : State) (pre : List Byte) (b : Byte) : s.classifyGo (pre ++ [b]) =
    if b = goByte then s.setSt stHdrSoh else s.abort resUnexpectedTransferType phAwaitGoAhead 0 := by
  simp [State.classifyGo]

/-- A reply that is not empty ends the session when its first byte is ACK (R133). -/
theorem State.classifyEot_cons (s : State) (b : Byte) (more : List Byte) : s.classifyEot (b :: more) =
    if b = ackByte then s.succeed else s.abort resTransferNotConfirmed phEndOfTransmission 0 := by
  simp [State.classifyEot]

/-- Settles O23: the failure by `State.readGo_of_fail`, a reply by its last byte. -/
theorem goNeedsReplyEndingInC : Obligations.GoNeedsReplyEndingInC := by
  intro s rest
  refine ⟨fun h => State.readGo_of_fail h, fun h => State.readGo_of_reply h, fun pre b h hb => ?_, fun pre h => ?_⟩
  · exact (State.readGo_of_reply h).trans (congrArg _ ((State.classifyGo_concat ..).trans (if_neg hb)))
  · exact (State.readGo_of_reply h).trans (congrArg _ ((State.classifyGo_concat ..).trans (if_pos rfl)))

/-- Settles O30: ACK_WAIT's read by its three outcomes. -/
theorem ackWaitPollsOneByte : Obligations.AckWaitPollsOneByte :=
  fun _ _ => ⟨fun h => (State.readAck_of_byte h).trans (congrArg _ (if_pos rfl)),
    fun _ h hb => (State.readAck_of_byte h).trans (congrArg _ (if_neg hb)), fun h => State.readAck_of_fail h,
    fun h => State.readAck_of_never h⟩

/-- Settles O33: the failure by `State.readEot_of_fail`, a reply by its first byte. -/
theorem eotWaitNeedsAckFirst : Obligations.EotWaitNeedsAckFirst := by
  intro s rest
  refine ⟨fun h => State.readEot_of_fail h, fun h => State.readEot_of_reply h, fun b more h hb => ?_, fun more h => ?_⟩
  · exact (State.readEot_of_reply h).trans (congrArg _ ((State.classifyEot_cons ..).trans (if_neg hb)))
  · exact (State.readEot_of_reply h).trans (congrArg _ ((State.classifyEot_cons ..).trans (if_pos rfl)))

/-! ### PROG -/

/-- Settles O31: PROG splits on whether the block was the last. -/
theorem progReportsAndSelects : Obligations.ProgReportsAndSelects :=
  fun _ => ⟨fun h => congrArg Host.Outcome.next (if_pos h), fun h => congrArg Host.Outcome.next (if_neg h)⟩

/-! ### The transmitted rows (R81; log 11) -/

section
variable {s : State} {c : StCode}

/-- A transmitted row of a fixed byte is its sender's step in the sender's state. -/
theorem sentOnly_of_state (h : s.st = c) (r : Result) : sentOnly (s.st == c) r = r := by simp [sentOnly, h]

/-- A transmitted row with an operand is its sender's step in the sender's state, for the sender's byte. -/
theorem sentOnly_of_byte {α : Type} [BEq α] [LawfulBEq α] {v w : α} (h : s.st = c) (hv : v = w) (r : Result) :
    sentOnly (s.st == c && v == w) r = r := by
  simp [sentOnly, h, hv]

end

/-- Settles O35: every transmitted row is its sender's step, whose ok case the rules of R122 to R129 and R132 give. -/
theorem transmittedRowsComplete : Obligations.TransmittedRowsComplete := by
  intro s ok
  refine ⟨fun e => ?menu, fun e => ?soh, fun e => ?blkNum, fun e => ?blkCmp, fun b e hk hb => ?data,
    fun b e hk hb => ?lastData, fun e => ?crcHi, fun e => ?crcLo, fun e => ?eot⟩
  case menu => exact (sentOnly_of_byte e rfl _).trans ((reqSendsMenuByte s).1 ok)
  case soh => exact (sentOnly_of_state e _).trans ((hdrSohStartsFrame s).1 ok)
  case blkNum => exact (sentOnly_of_byte e (blkField_eq_ofNat _).symm _).trans ((hdrNumSendsBlockNumber s).1 ok)
  case blkCmp => exact (sentOnly_of_byte e (cmpField_eq_sub _).symm _).trans ((hdrCmpSendsComplement s).1 ok)
  case data => exact (sentOnly_of_byte e hb _).trans ((dataSendsPayloadByte s b hb).1 ok hk)
  case lastData =>
    have hb : s.dataByte = some b := by rw [State.dataByte, hk]; exact hb
    exact (sentOnly_of_byte e hb _).trans ((dataSendsPayloadByte s b hb).2.1 ok hk)
  case crcHi => exact (sentOnly_of_byte e (crcHiField_eq_ofNat _).symm _).trans ((crcHiSendsHighByte s).1 ok)
  case crcLo => exact (sentOnly_of_byte e (crcLoField_eq_ofNat _).symm _).trans ((crcLoSendsLowByte s).1 ok)
  case eot => exact (sentOnly_of_state e _).trans ((eotTxSendsEot s).1 ok)

end Sys2Proof.Machine
end

section
/-! SUPPORT. What a session has sent at each control position begins R137's sequence (41_xmodem_engine R137, R140). -/

namespace Sys2Proof.Machine

/-! ### Lengths -/

@[simp] theorem length_frameBytes (img : Memory) (len i : Nat) : (frameBytes img len i).length = 133 := by
  simp [frameBytes, frameHeader]

@[simp] theorem length_framesUpTo (img : Memory) (len n : Nat) : (framesUpTo img len n).length = 133 * n := by
  induction n with
  | zero => rfl
  | succ n ih => simp only [framesUpTo, List.length_append, ih, length_frameBytes]; omega

theorem State.length_fullSession (s : State) : s.fullSession.length = 2 + 133 * s.nblk := by
  simp only [State.fullSession, List.length_append, List.length_singleton, length_framesUpTo]
  omega

/-! ### Initial parts -/

theorem frameBody_prefix (img : Memory) (len i : Nat) : frameHeader i ++ payload img len i <+: frameBytes img len i := by
  rw [frameBytes]
  exact List.prefix_append ..

theorem frameHeader_prefix (img : Memory) (len i : Nat) : frameHeader i <+: frameBytes img len i :=
  (List.prefix_append ..).trans (frameBody_prefix img len i)

section
variable (s : State)

/-- What is sent up to a block begins what is sent up to a later one. -/
theorem State.sentBlocks_prefix {i j : Nat} (h : i ≤ j) : s.sentBlocks i <+: s.sentBlocks j := by
  induction j, h using Nat.le_induction with
  | base => exact List.prefix_rfl
  | succ j _ ih =>
    refine ih.trans ?_
    rw [sentBlocks_eq_append_frame (Nat.le_add_left 1 j)]
    exact List.prefix_append ..

theorem State.sentBlocks_prefix_fullSession {i : Nat} (h : i ≤ s.nblk) : s.sentBlocks i <+: s.fullSession :=
  (s.sentBlocks_prefix h).trans (List.prefix_append ..)

/-- The blocks before block i, with the first part of its frame behind them. -/
theorem State.sentPart_prefix_fullSession {i : Nat} (h1 : 1 ≤ i) (h : i ≤ s.nblk) {part : List Byte}
    (hpart : part <+: frameBytes s.image s.len i) : s.sentBlocks (i - 1) ++ part <+: s.fullSession := by
  refine List.IsPrefix.trans ?_ (s.sentBlocks_prefix_fullSession h)
  rw [sentBlocks_eq_append_frame h1]
  exact (List.prefix_append_right_inj _).2 hpart

end

/-- In a session the bytes sent begin the whole sequence, position by position. -/
theorem State.Position.sessionSent_prefix {s : State} (h : s.Position) (h1 : 1 ≤ s.idx) (hle : s.idx ≤ s.nblk) :
    s.sessionSent <+: s.fullSession := by
  have part {p : List Byte} (hp : p <+: frameBytes s.image s.len s.idx) := s.sentPart_prefix_fullSession h1 hle hp
  rcases h with ⟨e | e, -⟩ | ⟨e, -⟩ | ⟨e | e, -⟩ | ⟨e, -⟩ | ⟨e | e | e | e, -⟩ | ⟨e | e, -⟩
  · rw [sessionSent_req e]; exact List.nil_prefix
  · rw [sessionSent_go e]; exact s.sentBlocks_prefix_fullSession (Nat.zero_le _)
  · rw [sessionSent_hdrSoh e]; exact s.sentBlocks_prefix_fullSession (by omega)
  · rw [sessionSent_hdrNum e]; exact part (.trans ⟨[_, _], rfl⟩ (frameHeader_prefix ..))
  · rw [sessionSent_hdrCmp e]; exact part (.trans ⟨[_], rfl⟩ (frameHeader_prefix ..))
  · rw [sessionSent_data e, List.append_assoc]
    exact part (((List.prefix_append_right_inj _).2 (List.take_prefix ..)).trans (frameBody_prefix ..))
  · rw [sessionSent_crcHi e, List.append_assoc]; exact part (frameBody_prefix ..)
  · rw [sessionSent_crcLo e, List.append_assoc, List.append_assoc]
    refine part ?_
    rw [← List.append_assoc, frameBytes]
    exact (List.prefix_append_right_inj _).2 ⟨[_], rfl⟩
  · rw [sessionSent_ackWait e]; exact s.sentBlocks_prefix_fullSession hle
  · rw [sessionSent_prog e]; exact s.sentBlocks_prefix_fullSession hle
  · rw [sessionSent_eotTx e]; exact s.sentBlocks_prefix_fullSession le_rfl
  · rw [sessionSent_eotWait e]; exact List.prefix_rfl

/-- Settles O47: `State.Position.sessionSent_prefix` in a session, and in DONE_OK the bytes sent are the whole sequence. -/
theorem sentBytesArePrefix : Obligations.SentBytesArePrefix := by
  intro s h hs
  have hdone : s.st = stDoneOk → s.sessionSent = s.fullSession := sessionSent_doneOk
  refine ⟨?_, s.length_fullSession, hdone⟩
  rcases hs with hb | hok
  · obtain ⟨-, -, h1, hle⟩ := h.rule37.b hb
    exact (h.position hb).sessionSent_prefix h1 hle
  · exact (hdone hok).symm ▸ List.prefix_rfl

end Sys2Proof.Machine
end

section
/-! SUPPORT. XFSM's turn (41_xmodem_engine R120, R121, R134 to R139): the CRC command of its step, the one way it stops, the abort of
an unacknowledged block, the aborts before the first block, and the rest outside a session. -/

namespace Sys2Proof.Machine

/-! ### What XFSM's turn runs -/

/-- In a session every state has its own instruction (R71). -/
theorem step_of_xfsm_at {s : State} {c : StCode} (hlegal : s.reservedCode = false) (ht : s.nextTurn = .xfsm)
    (e : s.st = c) : step s = exec (decodeState c.toNat) s.dropTurn := by
  rw [step_of_xfsm hlegal ht, e]

/-- A step that answers on XFSM's turn met no reserved code (R136). -/
theorem legal_of_step {s t : State} (e : step s = .next t) (ht : s.nextTurn ≠ .reset) : s.reservedCode = false := by
  rcases step_moves e with ⟨hr, -⟩ | ⟨-, h, -⟩
  · exact absurd hr ht
  · exact h

/-! ### The CRC command of each step (R73, R120) -/

/-- A sending step that does not abort was answered ok. -/
theorem State.sendByte_of_not_doneErr {s : State} {b : Byte} {r : ResCode} {p : PhaseCode} {i : Nat} {f : State → State}
    (h : (s.sendByte b r p i f).st ≠ stDoneErr) : s.sendByte b r p i f = f (Claims.sent s b) := by
  rcases s.sendByte_cases b r p i f with ⟨-, e⟩ | ⟨-, e⟩
  · exact e
  · exact absurd (by rw [e]; rfl) h

/-- HDR_SOH's command is CLEAR (R124). -/
theorem State.sendSoh_crc {s : State} (h : s.sendSoh.st ≠ stDoneErr) : s.sendSoh.crc = crcInit :=
  congrArg State.crc (State.sendByte_of_not_doneErr h)

/-- DATA's command is UPDATE with the byte sent (R127). -/
theorem State.sendData_crc {s t : State} (e : s.sendData = .next t) (h : t.st ≠ stDoneErr) :
    ∃ b, t.tx = s.tx ++ [b] ∧ t.crc = crcUpdate s.crc b := by
  unfold State.sendData at e
  split at e
  · cases e
  next b _ =>
    cases e
    have hsent := State.sendByte_of_not_doneErr h
    exact ⟨b, congrArg State.tx hsent, congrArg State.crc hsent⟩

/-- A move into DONE_ERR holds CRC (R183). -/
theorem Move.crc_of_doneErr {s t : State} (m : Move s t) (ht : t.st = stDoneErr) : t.crc = s.crc := by
  cases m
  case start | soh => simp +decide at ht
  case data => rw [State.foldData_st] at ht; split at ht <;> simp +decide at ht
  case prog => exact s.progress_crc
  all_goals rfl

/-- Settles O54: CLEAR and UPDATE by the two sends, HOLD elsewhere since CRC has no other writer
(`registersHaveOnlyTheirWriters`), and at an abort by `Move.crc_of_doneErr`. -/
theorem crcOpOfEachState : Obligations.CrcOpOfEachState := by
  intro s t ht e
  have hreset : s.nextTurn ≠ .reset := by simp [ht]
  have hstep := fun c => step_of_xfsm_at (c := c) (legal_of_step e hreset) ht
  refine ⟨fun herr => ?abort, fun hend hst => ?clear, fun hend hst => ?update, fun hsoh hdata => ?hold⟩
  case abort =>
    rcases step_moves e with ⟨hr, -⟩ | ⟨-, -, m⟩
    · exact absurd hr hreset
    · exact m.crc_of_doneErr herr
  case clear =>
    cases (hstep _ hst).symm.trans e
    exact State.sendSoh_crc hend
  case update => exact State.sendData_crc (s := s.dropTurn) ((hstep _ hst).symm.trans e) hend
  case hold =>
    obtain ⟨-, -, -, -, -, hcrc, -⟩ := registersHaveOnlyTheirWriters s t e hreset (by simp [ht])
    by_contra hne
    exact (hcrc hne).elim hsoh hdata

/-! ### The one way XFSM's turn stops (R56, R57, R120) -/

section
variable (s : State)

theorem State.readGo_next_or_never : (∃ t, s.readGo = .next t) ∨ s.readGo = .fault .readNeverReturns := by
  unfold State.readGo
  split
  · exact .inr rfl
  · exact .inl ⟨_, rfl⟩
  · exact .inl ⟨_, rfl⟩

theorem State.readAck_next_or_never : (∃ t, s.readAck = .next t) ∨ s.readAck = .fault .readNeverReturns := by
  unfold State.readAck
  split
  · exact .inr rfl
  · exact .inl ⟨_, rfl⟩
  · exact .inl ⟨_, rfl⟩

theorem State.readEot_next_or_never : (∃ t, s.readEot = .next t) ∨ s.readEot = .fault .readNeverReturns := by
  unfold State.readEot
  split
  · exact .inr rfl
  · exact .inl ⟨_, rfl⟩
  · exact .inl ⟨_, rfl⟩

end

/-- Settles O56: outside a session the block rests; in one the sends and PROG always answer, DATA does since the image is loaded, and
each read answers or never returns. -/
theorem xfsmStopsOnlyOnUnansweredReads : Obligations.XfsmStopsOnlyOnUnansweredReads := by
  intro s h ht
  rcases hb : s.isBusy with _ | _
  · exact .inl ⟨_, (step_of_xfsm h.legal ht).trans (exec_xfsm_of_rest (s := s.dropTurn) hb)⟩
  have hstep := fun c => step_of_xfsm_at (c := c) h.legal ht
  have answers {c} (e : s.st = c) (hn : ∃ t, exec (decodeState c.toNat) s.dropTurn = .next t) :
      ∃ t, step s = .next t := hn.imp fun _ => (hstep c e).trans
  have stops {c} (e : s.st = c) (hn : exec (decodeState c.toNat) s.dropTurn = .fault .readNeverReturns) :
      step s = .fault .readNeverReturns := (hstep c e).trans hn
  rcases h.position hb with ⟨e | e, -⟩ | ⟨e, -⟩ | ⟨e | e, -⟩ | ⟨e, -⟩ | ⟨e | e | e | e, -⟩ | ⟨e | e, -⟩
  · exact .inl (answers e ⟨_, rfl⟩)
  · exact s.dropTurn.readGo_next_or_never.imp (answers e) fun hn => ⟨stops e hn, .inl e⟩
  · exact .inl (answers e ⟨_, rfl⟩)
  · exact .inl (answers e ⟨_, rfl⟩)
  · exact .inl (answers e ⟨_, rfl⟩)
  · obtain ⟨b, hbyte⟩ := State.dataByte_of_loaded (s := s.dropTurn) (h.loaded hb).2
    exact .inl (answers e ⟨_, State.sendData_of_byte hbyte⟩)
  · exact .inl (answers e ⟨_, rfl⟩)
  · exact .inl (answers e ⟨_, rfl⟩)
  · exact s.dropTurn.readAck_next_or_never.imp (answers e) fun hn => ⟨stops e hn, .inr (.inl e)⟩
  · exact .inl (answers e ⟨_, rfl⟩)
  · exact .inl (answers e ⟨_, rfl⟩)
  · exact s.dropTurn.readEot_next_or_never.imp (answers e) fun hn => ⟨stops e hn, .inr (.inr e)⟩

/-! ### Aborts (R138, R139) -/

/-- Settles O57: ACK_WAIT aborts by `ackWaitPollsOneByte`, behind the bytes `TxTracks` gives. -/
theorem unacknowledgedBlockEndsSession : Obligations.UnacknowledgedBlockEndsSession := by
  intro base s h htracks hst ht hreply
  have hstep : ∃ rest, step s =
      .next (Claims.aborted { s.dropTurn with rx := rest } resBlockTransferFailed phBlockLoop s.idx) := by
    have hrun := step_of_xfsm_at h.legal ht hst
    rcases hreply with ⟨rest, hfail⟩ | ⟨b, rest, hbyte, hne⟩
    · exact ⟨rest, hrun.trans ((ackWaitPollsOneByte s.dropTurn rest).2.2.1 hfail)⟩
    · exact ⟨rest, hrun.trans ((ackWaitPollsOneByte s.dropTurn rest).2.1 b hbyte hne)⟩
  obtain ⟨rest, hstep⟩ := hstep
  have htx : s.tx = base ++ s.sentBlocks s.idx := by rw [htracks.1, sessionSent_ackWait hst]
  have hcount : s.pcnt + 1 = s.idx := h.bodyCount (by rw [State.inBody, hst]; rfl)
  exact ⟨_, hstep, rfl, htx, hcount, rfl, rfl, rfl⟩

/-- A step into DONE_ERR adds no byte (R183). -/
theorem step_tx_of_doneErr {s t : State} (e : step s = .next t) (ht : t.st = stDoneErr) : t.tx = s.tx := by
  rcases step_moves e with ⟨-, rfl⟩ | ⟨-, -, m⟩
  · rfl
  · exact m.tx_of_doneErr ht

/-- Settles O58: an abort adds no byte to those `TxTracks` gives, in GO the menu byte and in REQ none. -/
theorem earlyAbortSendsNoImage : Obligations.EarlyAbortSendsNoImage := by
  intro base s t htracks e herr
  have htx : t.tx = base ++ s.sessionSent := (step_tx_of_doneErr e herr).trans htracks.1
  exact ⟨fun hst => by rw [htx, sessionSent_go hst], fun hst => by rw [htx, sessionSent_req hst, List.append_nil]⟩

/-! ### Outside a session (R121, R134, R135, R185) -/

/-- Everything a move can do outside a session: begin one, or leave the registers and both output ports. -/
theorem Move.of_rest {s t : State} (m : Move s t) (hs : s.isBusy = false) :
    t.tx = s.tx ∧ t.events = s.events ∧ (t.st = stReq ∨ t.registers = s.registers) := by
  cases m
  case rest | report | imageWrite | alone | arrive => exact ⟨rfl, rfl, .inr rfl⟩
  case start => exact ⟨rfl, rfl, .inl rfl⟩
  case sendAbort row | readAbort row => exact absurd row.isBusy (Bool.eq_false_iff.1 hs)
  case menu e | soh e | blkNum e | blkCmp e | data e _ | crcHi e | crcLo e | prog e | eot e | go e | ack e | confirm e =>
    exact absurd e (State.st_ne_of_rest hs)

/-- Settles O59: `Move.of_rest`, and by `step_st_of_rest` only START's turn leads from rest to REQ. -/
theorem restIsLeftByStartOrReset : Obligations.RestIsLeftByStartOrReset := by
  intro s t hs e
  rcases step_moves e with ⟨hr, rfl⟩ | ⟨hr, -, m⟩
  · exact ⟨rfl, rfl, .inl ⟨hr, rfl⟩⟩
  obtain ⟨htx, hevents, hreq | hregs⟩ := m.of_rest hs
  · refine ⟨htx, hevents, .inr (.inl ?_)⟩
    by_contra! hstart
    have hst : s.st = stReq := (step_st_of_rest e hs hr fun L hL => hstart L hL hreq).symm.trans hreq
    exact absurd hst (State.st_ne_of_rest hs)
  · exact ⟨htx, hevents, .inr (.inr hregs)⟩

end Sys2Proof.Machine
end

section
/-! SUPPORT. XFSM's steps in a session that do not abort (41_xmodem_engine R120 to R133), and their count (R137). -/

namespace Sys2Proof.Machine

open Claims (sent)

/-! ### The steps that do not abort -/

/-- XFSM's step in a session when it does not abort: the ok case of its state's rule (R122 to R133). -/
inductive Advance (s : State) : State → Prop where
  | menu (h : s.st = stReq) : Advance s ((sent s s.params.menuUploadByte).setSt stGo)
  | go (pre : List Byte) (rest : List RxItem) (h : s.st = stGo)
      (hr : rxTakeIdle s.params.idleMax s.rx = .reply (pre ++ [goByte]) rest) : Advance s ((s.setRx rest).setSt stHdrSoh)
  | soh (h : s.st = stHdrSoh) : Advance s ((((sent s sohByte).setCrc crcInit).setK 0).setSt stHdrNum)
  | blkNum (h : s.st = stHdrNum) : Advance s ((sent s (blkField s.idx)).setSt stHdrCmp)
  | blkCmp (h : s.st = stHdrCmp) : Advance s ((sent s (cmpField s.idx)).setSt stData)
  | data (b : Byte) (h : s.st = stData) (hb : s.dataByte = some b) : Advance s ((sent s b).foldData b)
  | crcHi (h : s.st = stCrcHi) : Advance s ((sent s (crcHiField s.crc)).setSt stCrcLo)
  | crcLo (h : s.st = stCrcLo) : Advance s ((sent s (crcLoField s.crc)).setSt stAckWait)
  | ack (rest : List RxItem) (h : s.st = stAckWait) (hr : rxTakeByte s.rx = .byte ackByte rest) :
      Advance s ((s.setRx rest).setSt stProg)
  | prog (h : s.st = stProg) : Advance s s.progress
  | eot (h : s.st = stEotTx) : Advance s ((sent s eotByte).setSt stEotWait)
  | confirm (more : List Byte) (rest : List RxItem) (h : s.st = stEotWait)
      (hr : rxTakeIdle s.params.idleMax s.rx = .reply (ackByte :: more) rest) : Advance s (s.setRx rest).succeed

section
variable {s t : State}

theorem eq_sent_of_sendByte {b : Byte} {r : ResCode} {p : PhaseCode} {i : Nat} {f : State → State}
    (e : Host.Outcome.next (s.sendByte b r p i f) = (.next t : Result)) (hend : t.st ≠ stDoneErr) : t = f (sent s b) := by
  cases e
  exact State.sendByte_of_not_doneErr hend

theorem eq_sent_of_sendInBlock {b : Byte} {f : State → State}
    (e : Host.Outcome.next (s.sendInBlock b f) = (.next t : Result)) (hend : t.st ≠ stDoneErr) : t = f (sent s b) :=
  eq_sent_of_sendByte e hend

theorem advance_of_sendData (h : s.st = stData) (e : s.sendData = .next t) (hend : t.st ≠ stDoneErr) : Advance s t := by
  unfold State.sendData at e
  split at e <;> cases e
  next b hb => exact eq_sent_of_sendInBlock rfl hend ▸ .data b h hb

theorem advance_of_readGo (h : s.st = stGo) (e : s.readGo = .next t) (hend : t.st ≠ stDoneErr) : Advance s t := by
  unfold State.readGo at e
  split at e <;> cases e
  · exact absurd rfl hend
  next bytes rest hr =>
    rcases bytes.eq_nil_or_concat' with rfl | ⟨pre, b, rfl⟩
    · exact absurd rfl hend
    rw [State.classifyGo_concat] at hend ⊢
    split at hend
    next hb => rw [if_pos hb]; exact .go pre rest h (hb ▸ hr)
    next => exact absurd rfl hend

theorem advance_of_readAck (h : s.st = stAckWait) (e : s.readAck = .next t) (hend : t.st ≠ stDoneErr) : Advance s t := by
  unfold State.readAck at e
  split at e <;> cases e
  · exact absurd rfl hend
  next b rest hr =>
    split at hend
    next hb => rw [if_pos hb]; exact .ack rest h (hb ▸ hr)
    next => exact absurd rfl hend

theorem advance_of_readEot (h : s.st = stEotWait) (e : s.readEot = .next t) (hend : t.st ≠ stDoneErr) : Advance s t := by
  unfold State.readEot at e
  split at e <;> cases e
  · exact absurd rfl hend
  next bytes rest hr =>
    rcases bytes with - | ⟨b, more⟩
    · exact absurd rfl hend
    rw [State.classifyEot_cons] at hend ⊢
    split at hend
    next hb => rw [if_pos hb]; exact .confirm more rest h (hb ▸ hr)
    next => exact absurd rfl hend

/-- In a session XFSM's turn advances unless it aborts. -/
theorem step_advances (h : s.Inv) (hb : s.isBusy = true) (ht : s.nextTurn = .xfsm) (e : step s = .next t)
    (hend : t.st ≠ stDoneErr) : Advance s.dropTurn t := by
  have hstep {c : StCode} (hc : s.st = c) : exec (decodeState c.toNat) s.dropTurn = .next t :=
    (step_of_xfsm_at h.legal ht hc).symm.trans e
  rcases h.position hb with ⟨c | c, -⟩ | ⟨c, -⟩ | ⟨c | c, -⟩ | ⟨c, -⟩ | ⟨c | c | c | c, -⟩ | ⟨c | c, -⟩
  · exact eq_sent_of_sendByte (hstep c) hend ▸ .menu c
  · exact advance_of_readGo c (hstep c) hend
  · exact eq_sent_of_sendInBlock (hstep c) hend ▸ .soh c
  · exact eq_sent_of_sendInBlock (hstep c) hend ▸ .blkNum c
  · exact eq_sent_of_sendInBlock (hstep c) hend ▸ .blkCmp c
  · exact advance_of_sendData c (hstep c) hend
  · exact eq_sent_of_sendInBlock (hstep c) hend ▸ .crcHi c
  · exact eq_sent_of_sendInBlock (hstep c) hend ▸ .crcLo c
  · exact advance_of_readAck c (hstep c) hend
  · cases hstep c; exact .prog c
  · exact eq_sent_of_sendByte (hstep c) hend ▸ .eot c
  · exact advance_of_readEot c (hstep c) hend

end

/-! ### The step count (R137) -/

section
variable {s t : State}

theorem stepsLeft_req (e : s.st = stReq) : s.stepsLeft = 4 + 135 * s.nblk := by rw [State.stepsLeft, e]; rfl

theorem stepsLeft_go (e : s.st = stGo) : s.stepsLeft = 3 + 135 * s.nblk := by rw [State.stepsLeft, e]; rfl

theorem stepsLeft_hdrSoh (e : s.st = stHdrSoh) : s.stepsLeft = 135 * (s.nblk - s.idx) + 137 := by
  rw [State.stepsLeft, e]; rfl

theorem stepsLeft_hdrCmp (e : s.st = stHdrCmp) : s.stepsLeft = 135 * (s.nblk - s.idx) + 135 := by
  rw [State.stepsLeft, e]; rfl

theorem stepsLeft_data (e : s.st = stData) : s.stepsLeft = 135 * (s.nblk - s.idx) + 2 + (128 - s.k.toNat) + 4 := by
  rw [State.stepsLeft, e]; rfl

theorem stepsLeft_crcHi (e : s.st = stCrcHi) : s.stepsLeft = 135 * (s.nblk - s.idx) + 6 := by
  rw [State.stepsLeft, e]; rfl

theorem stepsLeft_prog (e : s.st = stProg) : s.stepsLeft = 135 * (s.nblk - s.idx) + 3 := by
  rw [State.stepsLeft, e]; rfl

theorem stepsLeft_doneOk (e : s.st = stDoneOk) : s.stepsLeft = 0 := by rw [State.stepsLeft, e]; rfl

/-- DATA counts its payload bytes down; behind the last one the checksum follows (R127). -/
theorem State.foldData_stepsLeft (e : s.st = stData) (hk : s.k.toNat ≤ 127) (b : Byte) :
    (s.foldData b).stepsLeft + 1 = s.stepsLeft := by
  rw [stepsLeft_data e]
  by_cases hlast : s.k.toNat + 1 = blockSize
  · have ht : (s.foldData b).stepsLeft = 135 * (s.nblk - s.idx) + 6 := stepsLeft_crcHi (if_pos hlast)
    simp only [blockSize] at hlast
    omega
  · have ht : (s.foldData b).stepsLeft = _ := stepsLeft_data (if_neg hlast)
    rw [ht, State.foldData_k, toNat_kSucc hk, State.foldData_nblk, State.foldData_idx]
    omega

/-- PROG ends the count of its block (R131). -/
theorem State.progress_stepsLeft (e : s.st = stProg) (hle : s.idx ≤ s.nblk) : s.progress.stepsLeft + 1 = s.stepsLeft := by
  rw [stepsLeft_prog e]
  unfold State.progress
  split
  next hlast => rw [hlast, Nat.sub_self]; rfl
  next hmore =>
    refine (congrArg (· + 1) (stepsLeft_hdrSoh rfl)).trans ?_
    simp only [State.setSt_nblk, State.setSt_idx, State.setIdx_nblk, State.setIdx_idx, State.setPcnt_nblk, State.emit_nblk]
    omega

theorem Advance.stepsLeft (m : Advance s t) (h : s.Inv) (hb : s.isBusy = true) : t.stepsLeft + 1 = s.stepsLeft := by
  obtain ⟨-, -, hone, hle⟩ := h.rule37.b hb
  cases m
  case soh e | blkNum e | crcHi e | crcLo e | ack e _ | eot e | confirm e _ =>
    rw [State.stepsLeft, State.stepsLeft, e]; rfl
  case menu e =>
    have ht : ((sent s s.params.menuUploadByte).setSt stGo).stepsLeft = 3 + 135 * s.nblk := stepsLeft_go rfl
    rw [ht, stepsLeft_req e]
    omega
  case go rest e _ =>
    have ht : ((s.setRx rest).setSt stHdrSoh).stepsLeft = 135 * (s.nblk - s.idx) + 137 := stepsLeft_hdrSoh rfl
    rw [ht, stepsLeft_go e, h.opening (.inr e)]
    omega
  case blkCmp e =>
    have ht : ((sent s (cmpField s.idx)).setSt stData).stepsLeft = _ := stepsLeft_data rfl
    have hk : ((sent s (cmpField s.idx)).setSt stData).k = 0 := h.header (.inr e)
    rw [ht, hk, stepsLeft_hdrCmp e]
    rfl
  case data b e _ => exact State.foldData_stepsLeft (s := sent s b) e (h.rule37.c e) b
  case prog e => exact State.progress_stepsLeft e hle

end

/-- Settles O51: `step_advances` and `Advance.stepsLeft`. -/
theorem xfsmStepsCountDown : Obligations.XfsmStepsCountDown := by
  refine ⟨fun s => stepsLeft_req, fun s => stepsLeft_doneOk, fun s t h hb ht e hend => ?_⟩
  have hdrop : s.dropTurn.Inv := h.of_registers rfl rfl (fun _ => rfl) h.imageForm
  exact (step_advances h hb ht e hend).stepsLeft hdrop hb

end Sys2Proof.Machine
end

section
/-! SUPPORT. The session in which nothing fails (41_xmodem_engine R137): what its environment still holds at each control position, and
that XFSM's turn advances from one position to the next until DONE_OK. -/

namespace Sys2Proof.Machine

/-! ### The environment of a session without failure -/

/-- The last replies of a session: an ACK for each of n blocks, then the EOT reply, closed. -/
def replies (eot : List Byte) (n : Nat) : List RxItem :=
  List.replicate n (.byte ackByte) ++ (eot.map .byte ++ [.idle])

/-- What the RX stream holds at each control position: the go-ahead reply until GO has read it, then an ACK for each block that
waits for one, perhaps behind the closing of the go-ahead reply, then the EOT reply. -/
def State.Awaits (go eot : List Byte) (s : State) : Prop :=
  match s.st.toNat with
  | 1 | 2 => s.rx = go.map .byte ++ .idle :: replies eot s.nblk
  | 3 | 4 | 5 | 6 | 7 | 8 | 9 => ∃ n, s.rx = List.replicate n .idle ++ replies eot (s.nblk - s.pcnt)
  | 10 => s.rx = replies eot (s.nblk - s.idx)
  | 11 | 12 => s.rx = replies eot 0
  | _ => True

/-- The events of a session that stands in state s and has not aborted (R104, R131, R133). -/
def State.sessionEvents (s : State) : List Event :=
  (List.range s.pcnt).map (fun j => .progress (j + 1) s.nblk) ++
    if s.st = stDoneOk then [.done resSuccess phNa 0] else []

/-- A session begun in state `start`, on its way to DONE_OK: XFSM has every turn, every write answers ok, the replies are still to come,
and the line and the events are those of the control position. -/
structure State.OnCourse (s start : State) (go eot : List Byte) : Prop where
  inv : s.Inv
  turns : s.turns = []
  answers : ∀ a ∈ s.txAnswers, a = .ok
  stream : s.Awaits go eot
  constants : s.params = start.params ∧ s.image = start.image ∧ s.len = start.len ∧ s.nblk = start.nblk
  tracks : s.TxTracks start.tx
  events : s.events = start.events ++ s.sessionEvents

/-- Replies that let a session go on: each within one idle-read, the first ending in 'C', the last beginning with ACK (R123, R133). -/
structure FavourableReplies (max : Nat) (go eot : List Byte) : Prop where
  max_pos : 1 ≤ max
  go_length : go.length ≤ max
  go_last : go.getLast? = some goByte
  eot_length : eot.length ≤ max
  eot_head : eot.head? = some ackByte

/-- An idle-read of a closed reply returns it; of a reply of exactly `max` bytes the closing stays behind (R57). -/
theorem rxTakeIdle_closed {max : Nat} {bytes : List Byte} (hmax : 1 ≤ max) (h : bytes.length ≤ max) (rest : List RxItem) :
    ∃ n, rxTakeIdle max (bytes.map .byte ++ .idle :: rest) = .reply bytes (List.replicate n .idle ++ rest) := by
  obtain ⟨-, hclosing, hfull, -⟩ := idleReadReturnsArrivals max hmax
  rcases Nat.lt_or_eq_of_le h with hlt | heq
  · exact ⟨0, hclosing bytes rest hlt⟩
  · exact ⟨1, hfull bytes (.idle :: rest) heq⟩

theorem State.txAnswer_of_all_ok {s : State} (h : ∀ a ∈ s.txAnswers, a = .ok) : s.txAnswer = .ok := by
  unfold State.txAnswer
  cases hs : s.txAnswers with
  | nil => rfl
  | cons a l => exact h a (by simp [hs])

theorem State.dropTurn_of_nil {s : State} (h : s.turns = []) : s.dropTurn = s := by
  unfold State.dropTurn
  rw [h, List.tail_nil, ← h]

theorem State.nextTurn_of_nil {s : State} (h : s.turns = []) : s.nextTurn = .xfsm := by
  rw [State.nextTurn, h]; rfl

section
variable {go eot : List Byte} {start s t : State}

/-! ### What each position awaits -/

theorem awaits_opening (e : s.st = stReq ∨ s.st = stGo) :
    s.Awaits go eot ↔ s.rx = go.map .byte ++ .idle :: replies eot s.nblk := by
  rcases e with e | e <;> rw [State.Awaits, e] <;> rfl

theorem awaits_block (e : s.st = stHdrSoh ∨ s.st = stHdrNum ∨ s.st = stHdrCmp ∨ s.st = stData ∨ s.st = stCrcHi ∨
    s.st = stCrcLo ∨ s.st = stAckWait) :
    s.Awaits go eot ↔ ∃ n, s.rx = List.replicate n .idle ++ replies eot (s.nblk - s.pcnt) := by
  rcases e with e | e | e | e | e | e | e <;> rw [State.Awaits, e] <;> rfl

theorem awaits_prog (e : s.st = stProg) : s.Awaits go eot ↔ s.rx = replies eot (s.nblk - s.idx) := by
  rw [State.Awaits, e]; rfl

theorem awaits_closing (e : s.st = stEotTx ∨ s.st = stEotWait) : s.Awaits go eot ↔ s.rx = replies eot 0 := by
  rcases e with e | e <;> rw [State.Awaits, e] <;> rfl

/-! ### What the reads find -/

/-- GO finds the go-ahead reply. -/
theorem State.Awaits.goReply (ha : s.Awaits go eot) (e : s.st = stGo) (hf : FavourableReplies s.params.idleMax go eot) :
    ∃ n, rxTakeIdle s.params.idleMax s.rx = .reply go (List.replicate n .idle ++ replies eot s.nblk) := by
  rw [(awaits_opening (.inr e)).1 ha]
  exact rxTakeIdle_closed hf.max_pos hf.go_length _

/-- ACK_WAIT finds the ACK of its block. -/
theorem State.Awaits.ackReply (ha : s.Awaits go eot) (e : s.st = stAckWait) (hcount : s.pcnt + 1 = s.idx)
    (hle : s.idx ≤ s.nblk) : rxTakeByte s.rx = .byte ackByte (replies eot (s.nblk - s.idx)) := by
  obtain ⟨n, hrx⟩ := (awaits_block (by simp [e])).1 ha
  have hnext : s.nblk - s.pcnt = (s.nblk - s.idx) + 1 := by omega
  rw [hrx, rxTakeByte_replicate_idle, hnext]
  rfl

/-- EOT_WAIT finds the EOT reply. -/
theorem State.Awaits.eotReply (ha : s.Awaits go eot) (e : s.st = stEotWait) (hf : FavourableReplies s.params.idleMax go eot) :
    ∃ rest, rxTakeIdle s.params.idleMax s.rx = .reply eot rest := by
  rw [(awaits_closing (.inr e)).1 ha]
  exact (rxTakeIdle_closed hf.max_pos hf.eot_length []).imp' _ fun _ => id

/-! ### Every position is left, and the session stays on course -/

/-- On course XFSM's turn advances. -/
theorem State.OnCourse.exists_advance (hc : s.OnCourse start go eot) (hf : FavourableReplies s.params.idleMax go eot)
    (hb : s.isBusy = true) : ∃ t, step s = .next t ∧ Advance s t := by
  have hstep {c : StCode} (e : s.st = c) : step s = exec (decodeState c.toNat) s := by
    have := step_of_xfsm_at hc.inv.legal (State.nextTurn_of_nil hc.turns) e
    rwa [State.dropTurn_of_nil hc.turns] at this
  have ok := State.txAnswer_of_all_ok hc.answers
  obtain ⟨-, -, -, hle⟩ := hc.inv.rule37.b hb
  rcases hc.inv.position hb with ⟨e | e, -⟩ | ⟨e, -⟩ | ⟨e | e, -⟩ | ⟨e, -⟩ | ⟨e | e | e | e, hcount, -⟩ | ⟨e | e, -⟩
  · exact ⟨_, (hstep e).trans ((exec_of_sendByte (i := .req) rfl).1 ok), .menu e⟩
  · obtain ⟨n, hread⟩ := hc.stream.goReply e hf
    obtain ⟨pre, rfl⟩ := List.getLast?_eq_some_iff.1 hf.go_last
    exact ⟨_, (hstep e).trans ((goNeedsReplyEndingInC s _).2.2.2 pre hread), .go pre _ e hread⟩
  · exact ⟨_, (hstep e).trans ((exec_of_sendInBlock (i := .hdrSoh) rfl).1 ok), .soh e⟩
  · exact ⟨_, (hstep e).trans ((exec_of_sendInBlock (i := .hdrNum) rfl).1 ok), .blkNum e⟩
  · exact ⟨_, (hstep e).trans ((exec_of_sendInBlock (i := .hdrCmp) rfl).1 ok), .blkCmp e⟩
  · obtain ⟨b, hbyte⟩ := State.dataByte_of_loaded (hc.inv.loaded hb).2
    exact ⟨_, (hstep e).trans ((exec_of_sendInBlock (i := .data) (State.sendData_of_byte hbyte)).1 ok), .data b e hbyte⟩
  · exact ⟨_, (hstep e).trans ((exec_of_sendInBlock (i := .crcHi) rfl).1 ok), .crcHi e⟩
  · exact ⟨_, (hstep e).trans ((exec_of_sendInBlock (i := .crcLo) rfl).1 ok), .crcLo e⟩
  · have hread := hc.stream.ackReply e hcount hle
    exact ⟨_, (hstep e).trans ((ackWaitPollsOneByte s _).1 hread), .ack _ e hread⟩
  · exact ⟨_, hstep e, .prog e⟩
  · exact ⟨_, (hstep e).trans ((exec_of_sendByte (i := .eotTx) rfl).1 ok), .eot e⟩
  · obtain ⟨rest, hread⟩ := hc.stream.eotReply e hf
    obtain ⟨more, rfl⟩ := List.head?_eq_some_iff.1 hf.eot_head
    exact ⟨_, (hstep e).trans ((eotWaitNeedsAckFirst s rest).2.2.2 more hread), .confirm more rest e hread⟩

/-- An advance leads to another position of the session or to DONE_OK. -/
theorem Advance.isBusy_or_doneOk (m : Advance s t) : t.isBusy = true ∨ t.st = stDoneOk := by
  cases m
  case confirm => exact .inr rfl
  case prog => exact .inl s.progress_isBusy
  case data => exact .inl (State.foldData_isBusy _ _)
  all_goals exact .inl rfl

theorem Advance.turns (m : Advance s t) : t.turns = s.turns := by
  cases m
  case prog => unfold State.progress; split <;> rfl
  all_goals rfl

/-- An advance uses up at most the next answer of the link. -/
theorem Advance.txAnswers_subset (m : Advance s t) : t.txAnswers ⊆ s.txAnswers := by
  cases m
  case go | ack | confirm => exact List.Subset.refl _
  case prog => unfold State.progress; split <;> exact List.Subset.refl _
  all_goals exact List.tail_subset _

/-- The stream of the next position is what the advance leaves. -/
theorem Advance.awaits (m : Advance s t) (h : s.Inv) (hb : s.isBusy = true)
    (hf : FavourableReplies s.params.idleMax go eot) (ha : s.Awaits go eot) : t.Awaits go eot := by
  obtain ⟨-, -, -, hle⟩ := h.rule37.b hb
  have hcount := fun e => h.bodyCount (s.inBody_iff.2 e)
  cases m
  case menu e => exact (awaits_opening (.inr rfl)).2 ((awaits_opening (.inl e)).1 ha)
  case go pre rest e hread =>
    obtain ⟨n, hreply⟩ := ha.goReply e hf
    obtain ⟨-, rfl⟩ := RxIdleAnswer.reply.inj (hread.symm.trans hreply)
    have hzero : s.pcnt = 0 := by have := hcount (.inl (.inr e)); have := h.opening (.inr e); omega
    refine (awaits_block (.inl rfl)).2 ⟨n, ?_⟩
    simp [hzero]
  case soh e | blkNum e | blkCmp e | crcHi e | crcLo e =>
    have hrx := (awaits_block (s := s) (by simp [e])).1 ha
    exact (awaits_block (by simp)).2 hrx
  case data b e _ =>
    have hrx := (awaits_block (s := s) (by simp [e])).1 ha
    refine (awaits_block ?_).2 hrx
    rw [State.foldData_st]
    split <;> simp
  case ack rest e hread =>
    have hreply := ha.ackReply e (hcount (.inr (.inr (.inr (.inr (by simp [e])))))) hle
    obtain ⟨-, rfl⟩ := RxByteAnswer.byte.inj (hread.symm.trans hreply)
    exact (awaits_prog rfl).2 rfl
  case prog e =>
    have hrx := (awaits_prog e).1 ha
    unfold State.progress
    split
    next hlast =>
      rw [hlast, Nat.sub_self] at hrx
      exact (awaits_closing (.inl rfl)).2 hrx
    next =>
      rw [← hcount (by simp [e])] at hrx
      exact (awaits_block (.inl rfl)).2 ⟨0, hrx⟩
  case eot e => exact (awaits_closing (.inr rfl)).2 ((awaits_closing (.inl e)).1 ha)
  case confirm => trivial

/-- A running session has emitted PROGRESS alone. -/
theorem sessionEvents_of_isBusy (hb : s.isBusy = true) :
    s.sessionEvents = (List.range s.pcnt).map fun j => .progress (j + 1) s.nblk := by
  simp [State.sessionEvents, (s.isBusy_iff.1 hb).2.1]

/-- A confirmed session has emitted PROGRESS for its blocks, then DONE. -/
theorem sessionEvents_of_doneOk (e : s.st = stDoneOk) :
    s.sessionEvents = (List.range s.pcnt).map (fun j => .progress (j + 1) s.nblk) ++ [.done resSuccess phNa 0] := by
  simp [State.sessionEvents, e]

/-- Between two positions of a session that emit nothing the events stay those of the session. -/
theorem events_of_silent {earlier : List Event} (hb : s.isBusy = true) (hbt : t.isBusy = true) (hevents : t.events = s.events)
    (hpcnt : t.pcnt = s.pcnt) (hnblk : t.nblk = s.nblk) (he : s.events = earlier ++ s.sessionEvents) :
    t.events = earlier ++ t.sessionEvents := by
  rw [hevents, he, sessionEvents_of_isBusy hb, sessionEvents_of_isBusy hbt, hpcnt, hnblk]

/-- An advance emits the event between the two positions. -/
theorem Advance.events (m : Advance s t) (h : s.Inv) (hb : s.isBusy = true) {earlier : List Event}
    (he : s.events = earlier ++ s.sessionEvents) : t.events = earlier ++ t.sessionEvents := by
  cases m
  case prog e =>
    have hcount : s.pcnt + 1 = s.idx := h.bodyCount (s.inBody_iff.2 (by simp [e]))
    rw [State.progress_events, he, sessionEvents_of_isBusy hb, sessionEvents_of_isBusy s.progress_isBusy, State.progress_pcnt,
      State.progress_nblk, List.range_succ, List.map_append, List.append_assoc, List.map_singleton, hcount]
  case confirm rest e _ =>
    rw [sessionEvents_of_isBusy hb] at he
    rw [sessionEvents_of_doneOk rfl, ← List.append_assoc]
    exact congrArg (· ++ [Event.done resSuccess phNa 0]) he
  case data => exact events_of_silent hb (State.foldData_isBusy _ _) rfl rfl rfl he
  all_goals exact events_of_silent hb rfl rfl rfl rfl he

/-- On course XFSM's turn leads to a state on course, one step nearer to DONE_OK. -/
theorem State.OnCourse.step (hc : s.OnCourse start go eot) (hf : FavourableReplies start.params.idleMax go eot)
    (hb : s.isBusy = true) : ∃ t, Machine.step s = .next t ∧ t.OnCourse start go eot ∧ t.stepsLeft + 1 = s.stepsLeft ∧
      (t.isBusy = true ∨ t.st = stDoneOk) := by
  have hf' : FavourableReplies s.params.idleMax go eot := hc.constants.1 ▸ hf
  obtain ⟨t, e, m⟩ := hc.exists_advance hf' hb
  obtain ⟨hparams, hconst⟩ := sessionConstantsHold s t e
  obtain ⟨himage, hlen, hnblk, -⟩ := hconst hb (by simp [State.nextTurn_of_nil hc.turns])
  have hnext := m.isBusy_or_doneOk
  have htracks := (sessionBytesAreTheFrames.2 start.tx s t hc.inv hb hc.tracks e).1 hnext
  refine ⟨t, e, ?_, m.stepsLeft hc.inv hb, hnext⟩
  exact {
    inv := step_keeps_inv hc.inv e
    turns := m.turns.trans hc.turns
    answers := fun a ha => hc.answers a (m.txAnswers_subset ha)
    stream := m.awaits hc.inv hb hf' hc.stream
    constants := by rw [hparams, himage, hlen, hnblk]; exact hc.constants
    tracks := htracks
    events := m.events hc.inv hb hc.events }

theorem run_succ_of_step {n : Nat} (e : Machine.step s = .next t) : Host.Core.run core (n + 1) s = Host.Core.run core n t := by
  have e' : core.step s = .next t := e
  simp only [Host.Core.run, e']

/-- On course a session reaches DONE_OK in the steps it has left. -/
theorem State.OnCourse.run (hc : s.OnCourse start go eot) (hf : FavourableReplies start.params.idleMax go eot)
    (hb : s.isBusy = true) : ∃ t, Host.Core.run core s.stepsLeft s = .next t ∧ t.st = stDoneOk ∧ t.OnCourse start go eot := by
  generalize hn : s.stepsLeft = n
  induction n generalizing s with
  | zero =>
    obtain ⟨t, -, -, hcount, -⟩ := hc.step hf hb
    omega
  | succ n ih =>
    obtain ⟨t, e, ht, hcount, hnext⟩ := hc.step hf hb
    have hrun := run_succ_of_step (n := n) e
    rcases hnext with hbusy | hdone
    · obtain ⟨u, hu⟩ := ih ht hbusy (by omega)
      exact ⟨u, hrun ▸ hu⟩
    · have hzero : n = 0 := by have := stepsLeft_doneOk hdone; omega
      exact ⟨t, by rw [hrun, hzero]; rfl, hdone, ht⟩

end

/-- Settles O52: the session starts on course, `State.OnCourse.run` leads it to DONE_OK in the steps REQ has left, and there the line
and the events are those of the whole session. -/
theorem cleanSessionSucceeds : Obligations.CleanSessionSucceeds := by
  intro s go eot h hst hturns hanswers hgo hlast heot hhead hrx
  have hb : s.isBusy = true := State.isBusy_of_st hst
  have hf : FavourableReplies s.params.idleMax go eot := ⟨h.paramsLegal.1, hgo, hlast, heot, hhead⟩
  have hpcnt : s.pcnt = 0 := by
    have := h.bodyCount (s.inBody_iff.2 (.inl (.inl hst)))
    have := h.opening (.inl hst)
    omega
  have hc : s.OnCourse s go eot := {
    inv := h
    turns := hturns
    answers := hanswers
    stream := (awaits_opening (.inl hst)).2 hrx
    constants := ⟨rfl, rfl, rfl, rfl⟩
    tracks := ⟨by rw [sessionSent_req hst, List.append_nil], .of_st hst⟩
    events := by rw [sessionEvents_of_isBusy hb, hpcnt]; simp }
  obtain ⟨t, hrun, hdone, ht⟩ := hc.run hf hb
  obtain ⟨hparams, himage, hlen, hnblk⟩ := ht.constants
  obtain ⟨hres, hcount⟩ := ht.inv.rule37.e hdone
  have hwhole : t.fullSession = s.fullSession := by
    simp only [State.fullSession, hparams, himage, hlen, hnblk]
  refine ⟨t, stepsLeft_req hst ▸ hrun, hdone, hres, hcount.trans hnblk, ?_, ?_⟩
  · rw [ht.tracks.1, sessionSent_doneOk hdone, ← hwhole]; rfl
  · rw [ht.events, sessionEvents_of_doneOk hdone, hcount, hnblk, List.append_assoc]

end Sys2Proof.Machine
end

section
/-! SUPPORT. CRCU's arithmetic (42_crc16 R161 to R168): one shift is linear over GF(2) and injective, so is `crc_update`,
and the bit-serial form, the table form and the laws of `crc16` follow. -/

namespace Sys2Proof.Machine

/-! ### One shift: linear and injective -/

theorem crcShift_of_clear {c : Remainder} (h : c.getLsbD 15 = false) : crcShift c = c <<< 1 :=
  if_neg (Bool.eq_false_iff.1 h)

theorem crcShift_of_set {c : Remainder} (h : c.getLsbD 15 = true) : crcShift c = (c <<< 1) ^^^ crcPoly :=
  if_pos h

/-- A shift of c XOR d is a serial step on c fed with d's top bit, and d moves up by one. -/
theorem crcShift_xor_eq_serial (c d : Remainder) :
    crcShift (c ^^^ d) = crcSerialBit c (d.getLsbD 15) ^^^ (d <<< 1) := by
  unfold crcShift crcSerialBit
  rw [BitVec.getLsbD_xor, BitVec.shiftLeft_xor_distrib]
  split <;> ac_rfl

theorem crcSerialBit_false (c : Remainder) : crcSerialBit c false = crcShift c := by
  rw [crcSerialBit, Bool.xor_false, crcShift]

theorem crcSerialBit_true (c : Remainder) : crcSerialBit c true = crcShift c ^^^ crcPoly := by
  unfold crcSerialBit
  cases h : c.getLsbD 15
  · rw [crcShift_of_clear h]; rfl
  · rw [crcShift_of_set h, BitVec.xor_assoc, BitVec.xor_self, BitVec.xor_zero]; rfl

/-- One shift is linear over GF(2): d's top bit XORs the polynomial in, whatever c's does. -/
theorem crcShift_xor (c d : Remainder) : crcShift (c ^^^ d) = crcShift c ^^^ crcShift d := by
  rw [crcShift_xor_eq_serial]
  cases h : d.getLsbD 15
  · rw [crcSerialBit_false, crcShift_of_clear h]
  · rw [crcSerialBit_true, crcShift_of_set h, BitVec.xor_assoc, BitVec.xor_comm crcPoly]

/-- The polynomial is odd, so bit 0 behind a shift is the bit shifted out. -/
theorem crcShift_getLsbD_zero (c : Remainder) : (crcShift c).getLsbD 0 = c.getLsbD 15 := by
  cases h : c.getLsbD 15
  · simp [crcShift_of_clear h]
  · simp [crcShift_of_set h, crcPoly]

theorem eq_zero_of_crcShift_eq_zero {c : Remainder} (h : crcShift c = 0) : c = 0 := by
  have htop : c.getLsbD 15 = false := by rw [← crcShift_getLsbD_zero, h]; rfl
  rw [crcShift_of_clear htop] at h
  apply BitVec.eq_of_getLsbD_eq
  intro i hi
  by_cases hlast : i = 15
  · rw [hlast, htop]
    exact BitVec.getLsbD_zero.symm
  · have hbit := congrArg (BitVec.getLsbD · (i + 1)) h
    have hnext : i + 1 < 16 := by omega
    simpa [BitVec.getLsbD_shiftLeft, hnext, hi] using hbit

theorem crcShift_injective : Function.Injective crcShift := by
  intro c d h
  have hzero : crcShift (c ^^^ d) = 0 := by rw [crcShift_xor, h, BitVec.xor_self]; rfl
  exact BitVec.xor_eq_zero_iff.1 (eq_zero_of_crcShift_eq_zero hzero)

/-! ### Runs of shifts -/

theorem crcShifts_succ_last (n : Nat) (c : Remainder) : crcShifts (n + 1) c = crcShift (crcShifts n c) := by
  induction n generalizing c with
  | zero => rfl
  | succ n ih => exact ih (crcShift c)

theorem crcShifts_xor (n : Nat) (c d : Remainder) : crcShifts n (c ^^^ d) = crcShifts n c ^^^ crcShifts n d := by
  induction n with
  | zero => rfl
  | succ n ih => simp only [crcShifts_succ_last, ih, crcShift_xor]

theorem crcShifts_injective (n : Nat) : Function.Injective (crcShifts n) := by
  induction n with
  | zero => exact Function.injective_id
  | succ n ih => exact ih.comp crcShift_injective

/-- While no bit is shifted out, n iterations are a left shift by n. -/
theorem crcShifts_eq_shiftLeft {n : Nat} {c : Remainder} (h : ∀ i, 16 - n ≤ i → c.getLsbD i = false) :
    crcShifts n c = c <<< n := by
  induction n generalizing c with
  | zero => simp [crcShifts]
  | succ n ih =>
    have hshift : crcShift c = c <<< 1 := crcShift_of_clear (h 15 (by omega))
    have hnext : ∀ i, 16 - n ≤ i → (c <<< 1).getLsbD i = false := by
      intro i hi
      simp only [BitVec.getLsbD_shiftLeft, h (i - 1) (by omega), Bool.and_false]
    calc crcShifts (n + 1) c = crcShifts n (c <<< 1) := by rw [crcShifts, hshift]
      _ = c <<< 1 <<< n := ih hnext
      _ = c <<< (n + 1) := by rw [← BitVec.shiftLeft_add, Nat.add_comm]

/-! ### `crc_update` -/

theorem shiftLeft_two_bytes (c : Remainder) : c <<< 8 <<< 8 = 0#16 := by
  rw [← BitVec.shiftLeft_add]
  exact BitVec.shiftLeft_eq_zero (by decide)

/-- A byte in bits 15:8: bit 15 - i is the byte's bit 7 - i. -/
theorem getLsbD_byte_shiftLeft (b : Byte) {i : Nat} (h : i < 8) :
    (b.setWidth 16 <<< 8).getLsbD (15 - i) = b.getLsbD (7 - i) := by
  have hhigh : ¬ 15 - i < 8 := by omega
  have hpos : 15 - i - 8 = 7 - i := by omega
  have hword : 15 - i < 16 := by omega
  simp [hhigh, hpos, hword]

/-- `crc_update` is linear over GF(2) in both arguments together (R167). -/
theorem crcUpdate_xor (c c' : Remainder) (b b' : Byte) :
    crcUpdate (c ^^^ c') (b ^^^ b') = crcUpdate c b ^^^ crcUpdate c' b' := by
  unfold crcUpdate
  rw [← crcShifts_xor, BitVec.setWidth_xor, BitVec.shiftLeft_xor_distrib]
  ac_rfl

theorem crcUpdate_zero_zero : crcUpdate 0 0 = 0 := by decide

theorem crcUpdate_left_injective (b : Byte) : Function.Injective fun c => crcUpdate c b :=
  (crcShifts_injective 8).comp fun _ _ h => BitVec.xor_left_inj _ |>.1 h

theorem crcUpdate_right_injective (c : Remainder) : Function.Injective (crcUpdate c) := by
  intro b b' h
  have hword : b.setWidth 16 <<< 8 = b'.setWidth 16 <<< 8 := (BitVec.xor_right_inj c).1 (crcShifts_injective 8 h)
  apply BitVec.eq_of_getLsbD_eq
  intro i hi
  have hpos : 7 - (7 - i) = i := by omega
  rw [← hpos, ← getLsbD_byte_shiftLeft b (by omega), hword, getLsbD_byte_shiftLeft b' (by omega)]

/-! ### The bit-serial form (R166) -/

/-- n shifts of c XOR d feed the top n bits of d serially into c. -/
theorem crcShifts_xor_eq_serial {n : Nat} (c d : Remainder) (h : n ≤ 16) :
    crcShifts n (c ^^^ d) = (List.range n).foldl (fun c i => crcSerialBit c (d.getLsbD (15 - i))) c ^^^ (d <<< n) := by
  induction n with
  | zero => simp [crcShifts]
  | succ n ih =>
    have hfed : (d <<< n).getLsbD 15 = d.getLsbD (15 - n) := by
      have hn : ¬ 15 < n := by omega
      simp only [BitVec.getLsbD_shiftLeft, hn, decide_false, Bool.not_false, Bool.and_true]
      rfl
    rw [crcShifts_succ_last, ih (by omega), crcShift_xor_eq_serial, hfed, ← BitVec.shiftLeft_add, List.range_succ,
      List.foldl_append]
    rfl

/-- Settles O9: the eight shifts of R161 feed the byte's bits 7 down to 0 serially, and nothing of the byte is left above them. -/
theorem bitSerialFormAgrees : Obligations.BitSerialFormAgrees := by
  intro c b
  have hbits : [7, 6, 5, 4, 3, 2, 1, 0] = (List.range 8).map (7 - ·) := by decide
  have hfold : crcBitSerial c b =
      (List.range 8).foldl (fun c i => crcSerialBit c ((b.setWidth 16 <<< 8).getLsbD (15 - i))) c := by
    rw [crcBitSerial, hbits, List.foldl_map]
    refine List.foldl_ext _ _ _ fun c i hi => ?_
    rw [getLsbD_byte_shiftLeft b (List.mem_range.1 hi)]
  rw [hfold, crcUpdate, crcShifts_xor_eq_serial c _ (by decide), shiftLeft_two_bytes, BitVec.xor_zero]

/-! ### The table form (R167) -/

/-- A remainder is its low byte XOR its high byte in bits 15:8. -/
theorem crcLoField_xor_crcHiField (c : Remainder) :
    (crcLoField c).setWidth 16 ^^^ ((crcHiField c).setWidth 16 <<< 8) = c := by
  apply BitVec.eq_of_getLsbD_eq
  intro i hi
  by_cases h : i < 8
  · simp [crcLoField, crcHiField, h, hi]
  · have hbyte : i - 8 < 8 := by omega
    have hpos : 8 + (i - 8) = i := by omega
    simp [crcLoField, crcHiField, h, hi, hbyte, hpos]

/-- The low byte alone is shifted up: its bits do not reach bit 15 (R167). -/
theorem crcUpdate_crcLoField (c : Remainder) : crcUpdate ((crcLoField c).setWidth 16) 0 = c <<< 8 := by
  have hclear : ∀ i, 16 - 8 ≤ i → ((crcLoField c).setWidth 16).getLsbD i = false := by
    intro i hi
    simp [BitVec.getLsbD_of_ge _ _ hi]
  calc crcUpdate ((crcLoField c).setWidth 16) 0
      = crcShifts 8 ((crcLoField c).setWidth 16) := congrArg (crcShifts 8) BitVec.xor_zero
    _ = (crcLoField c).setWidth 16 <<< 8 := crcShifts_eq_shiftLeft hclear
    _ = c <<< 8 := by
      conv_rhs => rw [← crcLoField_xor_crcHiField c, BitVec.shiftLeft_xor_distrib, shiftLeft_two_bytes, BitVec.xor_zero]

/-- A high byte meets the input byte in bits 15:8 (R167). -/
theorem crcUpdate_byte_shiftLeft (a b : Byte) : crcUpdate (a.setWidth 16 <<< 8) b = crcTable (a ^^^ b) := by
  simp [crcTable, crcUpdate, BitVec.setWidth_xor, BitVec.shiftLeft_xor_distrib]

/-- The table form, its index written as the remainder's high byte XOR the input byte (R167). -/
theorem crcUpdate_eq_table (c : Remainder) (b : Byte) : crcUpdate c b = (c <<< 8) ^^^ crcTable (crcHiField c ^^^ b) :=
  calc crcUpdate c b
      = crcUpdate ((crcLoField c).setWidth 16 ^^^ ((crcHiField c).setWidth 16 <<< 8)) (0 ^^^ b) := by
        rw [crcLoField_xor_crcHiField]; exact congrArg (crcUpdate c) BitVec.zero_xor.symm
    _ = crcUpdate ((crcLoField c).setWidth 16) 0 ^^^ crcUpdate ((crcHiField c).setWidth 16 <<< 8) b := crcUpdate_xor ..
    _ = (c <<< 8) ^^^ crcTable (crcHiField c ^^^ b) := by rw [crcUpdate_crcLoField, crcUpdate_byte_shiftLeft]

theorem crcHiField_eq_shiftRight (c : Remainder) : crcHiField c = (c >>> 8).setWidth 8 := by
  ext i hi
  simp [crcHiField]

/-- Settles O10: the table form is linearity over the two bytes of the remainder. -/
theorem tableFormAgrees : Obligations.TableFormAgrees := by
  refine ⟨fun c b => ?_, crcUpdate_xor, fun c b => ?_⟩
  · rw [crcUpdate_eq_table, crcHiField_eq_shiftRight, crcTableForm]
  · have h := crcUpdate_xor c 0 0 b
    simpa using h

/-! ### The fold and its laws (R165, R168) -/

theorem crc16_eq_foldl (l : List Byte) : crc16 l = l.foldl crcUpdate crcInit := BitVec.xor_zero

theorem crc16_append (x y : List Byte) : crc16 (x ++ y) = y.foldl crcUpdate (crc16 x) := by
  simp only [crc16_eq_foldl, List.foldl_append]

/-- Settles O11, by the fold over an appended byte. -/
theorem crc16FoldsInOrder : Obligations.Crc16FoldsInOrder :=
  ⟨rfl, crc16_append_singleton⟩

/-- Settles O12, by induction on the length: `crc_update` keeps 0x0000 on a zero byte. -/
theorem crc16OfZerosIsZero : Obligations.Crc16OfZerosIsZero := by
  intro n
  induction n with
  | zero => rfl
  | succ n ih => rw [List.replicate_succ', crc16_append_singleton, ih]; exact crcUpdate_zero_zero

/-- Folds over sequences of equal length are linear together. -/
theorem foldl_crcUpdate_xor {x y : List Byte} (h : x.length = y.length) (c d : Remainder) :
    (List.zipWith (· ^^^ ·) x y).foldl crcUpdate (c ^^^ d) = x.foldl crcUpdate c ^^^ y.foldl crcUpdate d := by
  induction x generalizing y c d with
  | nil => rw [List.length_eq_zero_iff.1 h.symm]; rfl
  | cons a x ih =>
    obtain ⟨b, y, rfl⟩ := List.exists_cons_of_length_eq_add_one h.symm
    rw [List.zipWith_cons_cons, List.foldl_cons, crcUpdate_xor]
    exact ih (Nat.succ.inj h) _ _

/-- Settles O13: the initial remainder 0x0000 is its own XOR with itself. -/
theorem crc16IsLinear : Obligations.Crc16IsLinear := by
  intro x y h
  simp only [crc16_eq_foldl]
  exact foldl_crcUpdate_xor h crcInit crcInit

theorem crcTable_zero : crcTable 0#8 = 0#16 := crcUpdate_zero_zero

/-- Folding in the remainder's own high byte clears it, and the low byte moves up. -/
theorem crcUpdate_crcHiField (c : Remainder) : crcUpdate c (crcHiField c) = c <<< 8 := by
  rw [crcUpdate_eq_table, BitVec.xor_self, crcTable_zero, BitVec.xor_zero]

theorem crcHiField_shiftLeft (c : Remainder) : crcHiField (c <<< 8) = crcLoField c := by
  ext i hi
  have hword : 8 + i < 16 := by omega
  have hpos : i < 16 := by omega
  simp [crcHiField, crcLoField, hword, BitVec.getLsbD_eq_getElem hpos]

/-- Settles O14: each byte of the checksum cancels the high byte it meets, and two bytes shift the whole remainder out. -/
theorem crc16ResidueIsZero : Obligations.Crc16ResidueIsZero := by
  intro s
  rw [crc16_append, List.foldl_cons, List.foldl_cons, List.foldl_nil, crcUpdate_crcHiField, ← crcHiField_shiftLeft,
    crcUpdate_crcHiField]
  exact shiftLeft_two_bytes _

/-- A difference in the remainder outlives every further byte. -/
theorem foldl_crcUpdate_injective (y : List Byte) : Function.Injective (y.foldl crcUpdate) := by
  induction y with
  | nil => exact Function.injective_id
  | cons b y ih => exact ih.comp (crcUpdate_left_injective b)

theorem xor_bit_ne {w : Nat} (b : BitVec w) {j : Nat} (h : j < w) : b ^^^ (1#w <<< j) ≠ b := by
  intro e
  have hflip := congrArg (BitVec.getLsbD · j) e
  simp [h] at hflip

/-- Settles O15: `crc_update` is injective in the byte, and in the remainder that the bytes behind it fold on. -/
theorem crc16DetectsOneBit : Obligations.Crc16DetectsOneBit := by
  intro x y b j h e
  simp only [crc16_append, List.foldl_cons] at e
  exact xor_bit_ne b h (crcUpdate_right_injective _ (foldl_crcUpdate_injective y e))

/-! ### The three operations (R162 to R164) -/

theorem exec_crcHold (din : Byte) (s : State) : exec (.crcHold din) s = .next s := rfl

theorem exec_crcClear (din : Byte) (s : State) : exec (.crcClear din) s = .next (s.setCrc crcInit) := rfl

theorem exec_crcUpdate (din : Byte) (s : State) : exec (.crcUpdate din) s = .next (s.setCrc (crcUpdate s.crc din)) := rfl

/-- Settles O8: each operation is one write of CRC; the listed values are evaluated. -/
theorem crcOpsWriteOnlyCrc : Obligations.CrcOpsWriteOnlyCrc :=
  ⟨fun s din => ⟨exec_crcHold din s, exec_crcClear din s, exec_crcUpdate din s⟩, by decide⟩

end Sys2Proof.Machine
end

section
/-! SUPPORT. Every abort (60_exceptions R181, R183): the moves into DONE_ERR, and the transmitted rows the link answers fail. -/

namespace Sys2Proof.Machine

/-! ### The steps that abort -/

/-- A move into DONE_ERR is an abort that raises a row of R181's table, and writes what R183 lists. -/
theorem Move.abort_of_doneErr {s t : State} (m : Move s t) (hs : s.st ≠ stDoneErr) (ht : t.st = stDoneErr) :
    ∃ r p i, s.AbortRow r p i ∧ t = { Claims.aborted s r p i with rx := t.rx, txAnswers := t.txAnswers } := by
  cases m
  case sendAbort row | readAbort row => exact ⟨_, _, _, row, rfl⟩
  case rest | report | imageWrite | alone | arrive => exact absurd ht hs
  case prog => exact absurd ht (s.progress.isBusy_iff.1 s.progress_isBusy).2.2
  case data => exact absurd ht ((State.isBusy_iff _).1 (State.foldData_isBusy _ _)).2.2
  case confirm => exact absurd ht (by decide : stDoneOk ≠ stDoneErr)
  case start | menu | soh | blkNum | blkCmp | crcHi | crcLo | eot | go | ack => simp +decide at ht

/-- Settles O48: a reset ends in IDLE; any other step is a move, by `Move.abort_of_doneErr`. -/
theorem abortsArePrecise : Obligations.AbortsArePrecise := by
  intro s t e hs ht
  rcases step_moves e with ⟨-, rfl⟩ | ⟨-, -, m⟩
  · simp +decide at ht
  · exact m.abort_of_doneErr hs ht

/-! ### The transmitted rows on a failed write (R181; log 11) -/

/-- Settles O36: every transmitted row is its sender's step, whose fail case the rules of R122 to R129 and R132 give. -/
theorem transmittedRowsAbort : Obligations.TransmittedRowsAbort := by
  intro s fail
  refine ⟨fun e => ?menu, fun e => ?soh, fun e => ?blkNum, fun e => ?blkCmp, fun b e hb => ?data, fun e => ?crcHi,
    fun e => ?crcLo, fun e => ?eot⟩
  case menu => exact (sentOnly_of_byte e rfl _).trans ((reqSendsMenuByte s).2 fail)
  case soh => exact (sentOnly_of_state e _).trans ((hdrSohStartsFrame s).2 fail)
  case blkNum => exact (sentOnly_of_byte e rfl _).trans ((hdrNumSendsBlockNumber s).2 fail)
  case blkCmp => exact (sentOnly_of_byte e rfl _).trans ((hdrCmpSendsComplement s).2 fail)
  case data => exact (sentOnly_of_byte e hb _).trans ((dataSendsPayloadByte s b hb).2.2 fail)
  case crcHi => exact (sentOnly_of_byte e rfl _).trans ((crcHiSendsHighByte s).2 fail)
  case crcLo => exact (sentOnly_of_byte e rfl _).trans ((crcLoSendsLowByte s).2 fail)
  case eot => exact (sentOnly_of_state e _).trans ((eotTxSendsEot s).2 fail)

end Sys2Proof.Machine
end

section
/-! SUPPORT. The encoder gives back the lane and the word the decoder accepted (30_encoding R70 to R73, R81, R82). -/

namespace Sys2Proof.Machine

/-- A lane accepts a word under its check only, and then reads what stands behind the check. -/
theorem ok_of_ite_error {c : Prop} [Decidable c] {x : Except DecodeError Instr} {err : DecodeError} {i : Instr}
    (d : (if c then x else .error err) = .ok i) : c ∧ x = .ok i := by
  split at d
  case isTrue hc => exact ⟨hc, d⟩
  case isFalse => cases d

/-! ### The encoding of what each lane reads -/

/-- A state code is the word of the state it selects (R71). -/
theorem encode_decodeState {n : Nat} (hn : n < 16) : encode (decodeState n) = (.st, n) := by
  interval_cases n <;> rfl

/-- START's word is LEN above HCMD 01; the other commands are accepted with no operand, as HCMD alone (R72; log 13). -/
theorem encode_decodeHost {w : Nat} {i : Instr} (d : decodeHost w = .ok i) : encode i = (.hcmd, w) := by
  unfold decodeHost at d
  split_ifs at d with hstart hoperand h00 h10 <;> cases d
  all_goals exact congrArg (Prod.mk Lane.hcmd) (by omega)

/-- A CRC command's word is CRC_OP above DIN (R73). -/
theorem encode_decodeCrc {op : Nat} (hop : op < 4) (din : Byte) :
    encode (decodeCrc op din) = (.crcOp, 256 * op + din.toNat) := by
  interval_cases op
  · exact congrArg (Prod.mk Lane.crcOp) (by omega)
  all_goals rfl

/-- The word of a transmitted row is the byte at its position; SOH and EOT are accepted as their fixed bytes only (R76, R81). -/
theorem encode_decodeTx {pos : TxPos} {b : Byte} {i : Instr} (d : decodeTx pos b = .ok i) :
    encode i = (.tx pos, b.toNat) := by
  cases pos
  case soh | eot =>
    obtain ⟨rfl, d⟩ := ok_of_ite_error d
    cases d
    rfl
  all_goals
    cases d
    rfl

/-- The word of a received row is the byte (R82). -/
theorem encode_decodeRx (b : Byte) : encode (decodeRx b) = (.rx, b.toNat) := by
  unfold decodeRx
  split_ifs with hack hgo
  · rw [hack]; rfl
  · rw [hgo]; rfl
  · rfl

/-- Encoding inverts decoding: a split along the lanes, each with its own equation above. -/
theorem encode_of_decode {l : Lane} {w : Nat} {i : Instr} (d : decode l w = .ok i) : encode i = (l, w) := by
  cases l
  case hcmd => exact encode_decodeHost d
  all_goals obtain ⟨hw, d⟩ := ok_of_ite_error d
  case st =>
    cases d
    exact encode_decodeState hw
  case crcOp =>
    cases d
    have hfields : 256 * (w / 256) + (BitVec.ofNat 8 w).toNat = w := Nat.div_add_mod w 256
    rw [encode_decodeCrc (by omega), hfields]
  case tx => rw [encode_decodeTx d, BitVec.toNat_ofNat, Nat.mod_eq_of_lt hw]
  case rx =>
    cases d
    rw [encode_decodeRx, BitVec.toNat_ofNat, Nat.mod_eq_of_lt hw]

/-! ### What is read is well formed -/

/-- Only the receiving lane carries a row that leaves values of its operand out (R82). -/
theorem wellFormed_of_encode_lane {i : Instr} (h : (encode i).1 ≠ .rx) : i.wellFormed = true := by
  cases i
  case rxOther => exact absurd rfl h
  all_goals rfl

/-- RX_OTHER is read from a byte that is neither ACK nor 'C' (R82). -/
theorem decodeRx_wellFormed (b : Byte) : (decodeRx b).wellFormed = true := by
  unfold decodeRx
  split_ifs with hack hgo
  · rfl
  · rfl
  · simp [Instr.wellFormed, hack, hgo]

/-- The decoder reads rows of the table only. -/
theorem wellFormed_of_decode {l : Lane} {w : Nat} {i : Instr} (d : decode l w = .ok i) : i.wellFormed = true := by
  by_cases hl : l = .rx
  · subst hl
    rw [decode_rx_ok d]
    exact decodeRx_wellFormed _
  · exact wellFormed_of_encode_lane (by rwa [encode_of_decode d])

/-- Settles O2: `wellFormed_of_decode` and `encode_of_decode`. -/
theorem encodeDecodeAgree : Obligations.EncodeDecodeAgree :=
  fun _ _ _ d => ⟨wellFormed_of_decode d, encode_of_decode d⟩

/-! ### Words written out (R71 to R73, R76, R81, R82) -/

/-- Settles O3: each lane's equation reads its words, START's LEN above HCMD (log 13) among them; a state code and a host command
with no operand are evaluated. -/
theorem specWordsDecode : Obligations.SpecWordsDecode :=
  ⟨rfl, rfl, rfl, rfl, decodeHost_start 300, rfl, decode_crcOp_word (op := 2) (by decide) 0x56,
    decode_crcOp_word (op := 1) (by decide) 0, decode_tx_toNat .soh sohByte, decode_tx_toNat .blkNum 255,
    decode_tx_toNat .eot eotByte, decode_rx_toNat ackByte, decode_rx_toNat goByte, decode_rx_toNat 0x15⟩

end Sys2Proof.Machine
end
